-- ==== Sys2Proof/Word.lean ====
section
/-! DEFINITION. The two word types of the machine: 8-bit cells and registers, 16-bit registers and addresses
(00_scope.md rules R6 and R8). -/

namespace Sys2Proof

/-- A `u8` of rule R8: a register, a memory cell, a port value. -/
abbrev Byte := BitVec 8

/-- A `u16` of rule R8: IX, IY, SP, PC, a register pair, a memory address. -/
abbrev Word := BitVec 16

end Sys2Proof
end

