-- ==== Sys2Proof/Syntax.lean ====
section
/-! DEFINITION. The instructions as syntax. `Instr` has one constructor for each mnemonic of spec/opcode_table.json; the
operand types are the selection tables of 00_scope.md rule R15 without the memory operand `(HL)`, which selects other
instructions. A row the table marks as fall-through (30_encoding.md rule R116) is the base instruction's constructor
with `px` at `dd` or `fd`. -/

namespace Sys2Proof

/-- The index prefix in front of an instruction it does not change (rule R116): none, `0xDD` or `0xFD`
(DESIGN CHOICE of the form, log 16). -/
inductive Pfx
  | none
  | dd
  | fd
  deriving DecidableEq, Repr

/-- The index registers (rule R110): `ix` after `0xDD`, `iy` after `0xFD`. -/
inductive Idx
  | ix
  | iy
  deriving DecidableEq, Repr

/-- The halves of an index register (10_state.md rule R23). -/
inductive Half
  | high
  | low
  deriving DecidableEq, Repr

/-- `r[i]` of rule R15 without index 6. -/
inductive Reg8
  | b
  | c
  | d
  | e
  | h
  | l
  | a
  deriving DecidableEq, Repr

/-- `p[i]` and `q[i]` of 40_load8.md rule R158: `r[i]` with the index halves in place of H and L. -/
inductive XReg8
  | b
  | c
  | d
  | e
  | xh
  | xl
  | a
  deriving DecidableEq, Repr

/-- `rp[i]` of rule R15. -/
inductive Reg16
  | bc
  | de
  | hl
  | sp
  deriving DecidableEq, Repr

/-- `rp2[i]` of rule R15. -/
inductive Stk16
  | bc
  | de
  | hl
  | af
  deriving DecidableEq, Repr

/-- `cc[i]` of rule R15 and 45_jump_call_return.md rule R315. -/
inductive Cond
  | nz
  | z
  | nc
  | c
  | po
  | pe
  | p
  | m
  deriving DecidableEq, Repr

/-- `alu[i]` of rule R15. -/
inductive AluOp
  | add
  | adc
  | sub
  | sbc
  | and
  | xor
  | or
  | cp
  deriving DecidableEq, Repr

/-- `rot[i]` of rule R15. -/
inductive Rot
  | rlc
  | rrc
  | rl
  | rr
  | sla
  | sra
  | sll
  | srl
  deriving DecidableEq, Repr

/-- The instructions. `px`: a prefix that changes nothing (R116); `n`, `nn`: immediates; `d`: a signed displacement;
`e`: a signed offset; `b`: a bit number; `y`, `z`: raw opcode fields of the undocumented duplicates (R103, R101). -/
inductive Instr
  /-- `NOP` (R380). -/
  | nop (px : Pfx)
  /-- `LD dd,nn` (R170). -/
  | ldRpNN (px : Pfx) (rp : Reg16) (nn : Word)
  /-- `LD (BC),A` (R151). -/
  | ldBCA (px : Pfx)
  /-- `INC ss` (R246). -/
  | incRp (px : Pfx) (rp : Reg16)
  /-- `INC r` (R210). -/
  | incR (px : Pfx) (r : Reg8)
  /-- `DEC r` (R214). -/
  | decR (px : Pfx) (r : Reg8)
  /-- `LD r,n` (R141). -/
  | ldRN (px : Pfx) (r : Reg8) (n : Byte)
  /-- `RLCA` (R261). -/
  | rlca (px : Pfx)
  /-- `EX AF,AF'` (R187). -/
  | exAF (px : Pfx)
  /-- `ADD HL,ss` (R241). -/
  | addHLRp (rp : Reg16)
  /-- `LD A,(BC)` (R148). -/
  | ldABC (px : Pfx)
  /-- `DEC ss` (R247). -/
  | decRp (px : Pfx) (rp : Reg16)
  /-- `RRCA` (R262). -/
  | rrca (px : Pfx)
  /-- `DJNZ e` (R307). -/
  | djnz (px : Pfx) (e : Byte)
  /-- `LD (DE),A` (R152). -/
  | ldDEA (px : Pfx)
  /-- `RLA` (R263). -/
  | rla (px : Pfx)
  /-- `JR e` (R302). -/
  | jr (px : Pfx) (e : Byte)
  /-- `LD A,(DE)` (R149). -/
  | ldADE (px : Pfx)
  /-- `RRA` (R264). -/
  | rra (px : Pfx)
  /-- `JR cc,e` (R304), `cc` one of NZ Z NC C. -/
  | jrCC (px : Pfx) (cc : Cond) (e : Byte)
  /-- `LD (nn),HL` (R175). -/
  | ldMNNHL (nn : Word)
  /-- `DAA` (R218). -/
  | daa (px : Pfx)
  /-- `LD HL,(nn)` (R172). -/
  | ldHLMNN (nn : Word)
  /-- `CPL` (R219). -/
  | cpl (px : Pfx)
  /-- `LD (nn),A` (R153). -/
  | ldMNNA (px : Pfx) (nn : Word)
  /-- `INC (HL)` (R211). -/
  | incMHL
  /-- `DEC (HL)` (R215). -/
  | decMHL
  /-- `LD (HL),n` (R146). -/
  | ldMHLN (n : Byte)
  /-- `SCF` (R221). -/
  | scf (px : Pfx)
  /-- `LD A,(nn)` (R150). -/
  | ldAMNN (px : Pfx) (nn : Word)
  /-- `CCF` (R222). -/
  | ccf (px : Pfx)
  /-- `LD r,r'` (R140). -/
  | ldRR (px : Pfx) (dst : Reg8) (src : Reg8)
  /-- `LD r,(HL)` (R142). -/
  | ldRMHL (r : Reg8)
  /-- `LD (HL),r` (R144). -/
  | ldMHLR (r : Reg8)
  /-- `HALT` (R381). -/
  | halt (px : Pfx)
  /-- `ADD A,r` (R202). -/
  | addR (px : Pfx) (r : Reg8)
  /-- `ADD A,(HL)` (R202). -/
  | addMHL
  /-- `ADC A,r` (R203). -/
  | adcR (px : Pfx) (r : Reg8)
  /-- `ADC A,(HL)` (R203). -/
  | adcMHL
  /-- `SUB r` (R204). -/
  | subR (px : Pfx) (r : Reg8)
  /-- `SUB (HL)` (R204). -/
  | subMHL
  /-- `SBC A,r` (R205). -/
  | sbcR (px : Pfx) (r : Reg8)
  /-- `SBC A,(HL)` (R205). -/
  | sbcMHL
  /-- `AND r` (R206). -/
  | andR (px : Pfx) (r : Reg8)
  /-- `AND (HL)` (R206). -/
  | andMHL
  /-- `XOR r` (R207). -/
  | xorR (px : Pfx) (r : Reg8)
  /-- `XOR (HL)` (R207). -/
  | xorMHL
  /-- `OR r` (R208). -/
  | orR (px : Pfx) (r : Reg8)
  /-- `OR (HL)` (R208). -/
  | orMHL
  /-- `CP r` (R209). -/
  | cpR (px : Pfx) (r : Reg8)
  /-- `CP (HL)` (R209). -/
  | cpMHL
  /-- `RET cc` (R311). -/
  | retCC (px : Pfx) (cc : Cond)
  /-- `POP qq` (R182). -/
  | popRp2 (px : Pfx) (q : Stk16)
  /-- `JP cc,nn` (R301). -/
  | jpCC (px : Pfx) (cc : Cond) (nn : Word)
  /-- `JP nn` (R300). -/
  | jp (px : Pfx) (nn : Word)
  /-- `CALL cc,nn` (R309). -/
  | callCC (px : Pfx) (cc : Cond) (nn : Word)
  /-- `PUSH qq` (R180). -/
  | pushRp2 (px : Pfx) (q : Stk16)
  /-- `ADD A,n` (R202). -/
  | addN (px : Pfx) (n : Byte)
  /-- `ADC A,n` (R203). -/
  | adcN (px : Pfx) (n : Byte)
  /-- `SUB n` (R204). -/
  | subN (px : Pfx) (n : Byte)
  /-- `SBC A,n` (R205). -/
  | sbcN (px : Pfx) (n : Byte)
  /-- `AND n` (R206). -/
  | andN (px : Pfx) (n : Byte)
  /-- `XOR n` (R207). -/
  | xorN (px : Pfx) (n : Byte)
  /-- `OR n` (R208). -/
  | orN (px : Pfx) (n : Byte)
  /-- `CP n` (R209). -/
  | cpN (px : Pfx) (n : Byte)
  /-- `RST y*8` (R314). -/
  | rst (px : Pfx) (y : BitVec 3)
  /-- `RET` (R310). -/
  | ret (px : Pfx)
  /-- `CALL nn` (R308). -/
  | call (px : Pfx) (nn : Word)
  /-- `OUT (n),A` (R363). -/
  | outNA (px : Pfx) (n : Byte)
  /-- `EXX` (R188). -/
  | exx (px : Pfx)
  /-- `IN A,(n)` (R360). -/
  | inAN (px : Pfx) (n : Byte)
  /-- `EX (SP),HL` (R185). -/
  | exSPHL
  /-- `JP (HL)` (R305). -/
  | jpHL
  /-- `EX DE,HL` (R184). -/
  | exDEHL (px : Pfx)
  /-- `DI` (R382). -/
  | di (px : Pfx)
  /-- `LD SP,HL` (R178). -/
  | ldSPHL
  /-- `EI` (R383). -/
  | ei (px : Pfx)
  /-- `RLC r` (R266). -/
  | rlcR (r : Reg8)
  /-- `RLC (HL)` (R266). -/
  | rlcMHL
  /-- `RRC r` (R267). -/
  | rrcR (r : Reg8)
  /-- `RRC (HL)` (R267). -/
  | rrcMHL
  /-- `RL r` (R268). -/
  | rlR (r : Reg8)
  /-- `RL (HL)` (R268). -/
  | rlMHL
  /-- `RR r` (R269). -/
  | rrR (r : Reg8)
  /-- `RR (HL)` (R269). -/
  | rrMHL
  /-- `SLA r` (R270). -/
  | slaR (r : Reg8)
  /-- `SLA (HL)` (R270). -/
  | slaMHL
  /-- `SRA r` (R271). -/
  | sraR (r : Reg8)
  /-- `SRA (HL)` (R271). -/
  | sraMHL
  /-- `SLL r` (R272). -/
  | sllR (r : Reg8)
  /-- `SLL (HL)` (R272). -/
  | sllMHL
  /-- `SRL r` (R273). -/
  | srlR (r : Reg8)
  /-- `SRL (HL)` (R273). -/
  | srlMHL
  /-- `BIT b,r` (R280). -/
  | bitR (b : BitVec 3) (r : Reg8)
  /-- `BIT b,(HL)` (R286). -/
  | bitMHL (b : BitVec 3)
  /-- `RES b,r` (R291). -/
  | resR (b : BitVec 3) (r : Reg8)
  /-- `RES b,(HL)` (R292). -/
  | resMHL (b : BitVec 3)
  /-- `SET b,r` (R288). -/
  | setR (b : BitVec 3) (r : Reg8)
  /-- `SET b,(HL)` (R289). -/
  | setMHL (b : BitVec 3)
  /-- An undefined extended opcode `ED op` (R388). -/
  | undefinedED (op : Byte)
  /-- `IN r,(C)` (R361). -/
  | inRC (r : Reg8)
  /-- `OUT (C),r` (R364). -/
  | outCR (r : Reg8)
  /-- `SBC HL,ss` (R243). -/
  | sbcHLRp (rp : Reg16)
  /-- `LD (nn),dd` (R176). -/
  | ldMNNRp (rp : Reg16) (nn : Word)
  /-- `NEG`, `ED 44` (R220). -/
  | neg
  /-- `RETN`, `ED 45` (R313). -/
  | retn
  /-- `IM 0`, `ED 46` (R384). -/
  | im0
  /-- `LD I,A` (R156). -/
  | ldIA
  /-- `ADC HL,ss` (R242). -/
  | adcHLRp (rp : Reg16)
  /-- `LD dd,(nn)` (R173). -/
  | ldRpMNN (rp : Reg16) (nn : Word)
  /-- An undocumented duplicate of `NEG`, opcode `01 y 100` (R220). -/
  | negDup (y : BitVec 3)
  /-- `RETI` (R312). -/
  | reti
  /-- An undocumented duplicate of `IM 0`, opcode `01 y 110` (R384). -/
  | im0Dup (y : BitVec 3)
  /-- `LD R,A` (R157). -/
  | ldRA
  /-- An undocumented duplicate of `RETN`, opcode `01 y 101` (R313). -/
  | retnDup (y : BitVec 3)
  /-- `IM 1`, `ED 56` (R385). -/
  | im1
  /-- `LD A,I` (R154). -/
  | ldAI
  /-- `IM 2`, `ED 5E` (R386). -/
  | im2
  /-- `LD A,R` (R155). -/
  | ldAR
  /-- `RRD` (R275). -/
  | rrd
  /-- `RLD` (R274). -/
  | rld
  /-- `IN (C)`, flags only (R362). -/
  | inC
  /-- `OUT (C),0` (R365). -/
  | outC0
  /-- The undocumented duplicate of `IM 1`, `ED 76` (R385). -/
  | im1Dup
  /-- The undocumented no-operations `ED 77`, `ED 7F` (R387). -/
  | nopED (y : BitVec 3)
  /-- The undocumented duplicate of `IM 2`, `ED 7E` (R386). -/
  | im2Dup
  /-- `LDI` (R333). -/
  | ldi
  /-- `CPI` (R337). -/
  | cpi
  /-- `INI` (R341). -/
  | ini
  /-- `OUTI` (R345). -/
  | outi
  /-- `LDD` (R334). -/
  | ldd
  /-- `CPD` (R338). -/
  | cpd
  /-- `IND` (R342). -/
  | ind
  /-- `OUTD` (R346). -/
  | outd
  /-- `LDIR` (R335). -/
  | ldir
  /-- `CPIR` (R339). -/
  | cpir
  /-- `INIR` (R343). -/
  | inir
  /-- `OTIR` (R347). -/
  | otir
  /-- `LDDR` (R336). -/
  | lddr
  /-- `CPDR` (R340). -/
  | cpdr
  /-- `INDR` (R344). -/
  | indr
  /-- `OTDR` (R348). -/
  | otdr
  /-- `ADD IX,rp` with `.hl` naming IX itself (R244). -/
  | addIXRp (rp : Reg16)
  /-- `LD IX,nn` (R171). -/
  | ldIXNN (nn : Word)
  /-- `LD (nn),IX` (R177). -/
  | ldMNNIX (nn : Word)
  /-- `INC IX` (R248). -/
  | incIX
  /-- `INC IXH`, `INC IXL` (R213). -/
  | incIXHalf (h : Half)
  /-- `DEC IXH`, `DEC IXL` (R217). -/
  | decIXHalf (h : Half)
  /-- `LD IXH,n`, `LD IXL,n` (R159). -/
  | ldIXHalfN (h : Half) (n : Byte)
  /-- `LD IX,(nn)` (R174). -/
  | ldIXMNN (nn : Word)
  /-- `DEC IX` (R249). -/
  | decIX
  /-- `INC (IX+d)` (R212). -/
  | incMIX (d : Byte)
  /-- `DEC (IX+d)` (R216). -/
  | decMIX (d : Byte)
  /-- `LD (IX+d),n` (R147). -/
  | ldMIXN (d : Byte) (n : Byte)
  /-- `LD p,p'` with IXH, IXL in place of H, L (R158). -/
  | ldPP (dst : XReg8) (src : XReg8)
  /-- `LD r,(IX+d)` (R143). -/
  | ldRMIX (r : Reg8) (d : Byte)
  /-- `LD (IX+d),r` (R145). -/
  | ldMIXR (r : Reg8) (d : Byte)
  /-- `ADD A,IXH`, `ADD A,IXL` (R202). -/
  | addIXHalf (h : Half)
  /-- `ADD A,(IX+d)` (R202). -/
  | addMIX (d : Byte)
  /-- `ADC A,IXH`, `ADC A,IXL` (R203). -/
  | adcIXHalf (h : Half)
  /-- `ADC A,(IX+d)` (R203). -/
  | adcMIX (d : Byte)
  /-- `SUB IXH`, `SUB IXL` (R204). -/
  | subIXHalf (h : Half)
  /-- `SUB (IX+d)` (R204). -/
  | subMIX (d : Byte)
  /-- `SBC A,IXH`, `SBC A,IXL` (R205). -/
  | sbcIXHalf (h : Half)
  /-- `SBC A,(IX+d)` (R205). -/
  | sbcMIX (d : Byte)
  /-- `AND IXH`, `AND IXL` (R206). -/
  | andIXHalf (h : Half)
  /-- `AND (IX+d)` (R206). -/
  | andMIX (d : Byte)
  /-- `XOR IXH`, `XOR IXL` (R207). -/
  | xorIXHalf (h : Half)
  /-- `XOR (IX+d)` (R207). -/
  | xorMIX (d : Byte)
  /-- `OR IXH`, `OR IXL` (R208). -/
  | orIXHalf (h : Half)
  /-- `OR (IX+d)` (R208). -/
  | orMIX (d : Byte)
  /-- `CP IXH`, `CP IXL` (R209). -/
  | cpIXHalf (h : Half)
  /-- `CP (IX+d)` (R209). -/
  | cpMIX (d : Byte)
  /-- An index prefix before `DD` or `FD` (R389). -/
  | prefixNop (first : Idx) (second : Idx)
  /-- An index prefix before `ED` (R391). -/
  | prefixBeforeED (first : Idx)
  /-- `POP IX` (R183). -/
  | popIX
  /-- `EX (SP),IX` (R186). -/
  | exSPIX
  /-- `PUSH IX` (R181). -/
  | pushIX
  /-- `JP (IX)` (R306). -/
  | jpIX
  /-- `LD SP,IX` (R179). -/
  | ldSPIX
  /-- `rot (IX+d),r`, result also copied to `r` (R294). -/
  | rotMIXR (rot : Rot) (d : Byte) (r : Reg8)
  /-- `RLC (IX+d)` (R266). -/
  | rlcMIX (d : Byte)
  /-- `RRC (IX+d)` (R267). -/
  | rrcMIX (d : Byte)
  /-- `RL (IX+d)` (R268). -/
  | rlMIX (d : Byte)
  /-- `RR (IX+d)` (R269). -/
  | rrMIX (d : Byte)
  /-- `SLA (IX+d)` (R270). -/
  | slaMIX (d : Byte)
  /-- `SRA (IX+d)` (R271). -/
  | sraMIX (d : Byte)
  /-- `SLL (IX+d)` (R272). -/
  | sllMIX (d : Byte)
  /-- `SRL (IX+d)` (R273). -/
  | srlMIX (d : Byte)
  /-- `BIT b,(IX+d)`, any `z` (R287). -/
  | bitMIX (b : BitVec 3) (d : Byte) (z : BitVec 3)
  /-- `RES b,(IX+d),r` (R294). -/
  | resMIXR (b : BitVec 3) (d : Byte) (r : Reg8)
  /-- `RES b,(IX+d)` (R293). -/
  | resMIX (b : BitVec 3) (d : Byte)
  /-- `SET b,(IX+d),r` (R294). -/
  | setMIXR (b : BitVec 3) (d : Byte) (r : Reg8)
  /-- `SET b,(IX+d)` (R290). -/
  | setMIX (b : BitVec 3) (d : Byte)
  /-- `ADD IY,rp` with `.hl` naming IY itself (R245). -/
  | addIYRp (rp : Reg16)
  /-- `LD IY,nn` (R171). -/
  | ldIYNN (nn : Word)
  /-- `LD (nn),IY` (R177). -/
  | ldMNNIY (nn : Word)
  /-- `INC IY` (R248). -/
  | incIY
  /-- `INC IYH`, `INC IYL` (R213). -/
  | incIYHalf (h : Half)
  /-- `DEC IYH`, `DEC IYL` (R217). -/
  | decIYHalf (h : Half)
  /-- `LD IYH,n`, `LD IYL,n` (R159). -/
  | ldIYHalfN (h : Half) (n : Byte)
  /-- `LD IY,(nn)` (R174). -/
  | ldIYMNN (nn : Word)
  /-- `DEC IY` (R249). -/
  | decIY
  /-- `INC (IY+d)` (R212). -/
  | incMIY (d : Byte)
  /-- `DEC (IY+d)` (R216). -/
  | decMIY (d : Byte)
  /-- `LD (IY+d),n` (R147). -/
  | ldMIYN (d : Byte) (n : Byte)
  /-- `LD q,q'` with IYH, IYL in place of H, L (R158). -/
  | ldQQ (dst : XReg8) (src : XReg8)
  /-- `LD r,(IY+d)` (R143). -/
  | ldRMIY (r : Reg8) (d : Byte)
  /-- `LD (IY+d),r` (R145). -/
  | ldMIYR (r : Reg8) (d : Byte)
  /-- `ADD A,IYH`, `ADD A,IYL` (R202). -/
  | addIYHalf (h : Half)
  /-- `ADD A,(IY+d)` (R202). -/
  | addMIY (d : Byte)
  /-- `ADC A,IYH`, `ADC A,IYL` (R203). -/
  | adcIYHalf (h : Half)
  /-- `ADC A,(IY+d)` (R203). -/
  | adcMIY (d : Byte)
  /-- `SUB IYH`, `SUB IYL` (R204). -/
  | subIYHalf (h : Half)
  /-- `SUB (IY+d)` (R204). -/
  | subMIY (d : Byte)
  /-- `SBC A,IYH`, `SBC A,IYL` (R205). -/
  | sbcIYHalf (h : Half)
  /-- `SBC A,(IY+d)` (R205). -/
  | sbcMIY (d : Byte)
  /-- `AND IYH`, `AND IYL` (R206). -/
  | andIYHalf (h : Half)
  /-- `AND (IY+d)` (R206). -/
  | andMIY (d : Byte)
  /-- `XOR IYH`, `XOR IYL` (R207). -/
  | xorIYHalf (h : Half)
  /-- `XOR (IY+d)` (R207). -/
  | xorMIY (d : Byte)
  /-- `OR IYH`, `OR IYL` (R208). -/
  | orIYHalf (h : Half)
  /-- `OR (IY+d)` (R208). -/
  | orMIY (d : Byte)
  /-- `CP IYH`, `CP IYL` (R209). -/
  | cpIYHalf (h : Half)
  /-- `CP (IY+d)` (R209). -/
  | cpMIY (d : Byte)
  /-- `POP IY` (R183). -/
  | popIY
  /-- `EX (SP),IY` (R186). -/
  | exSPIY
  /-- `PUSH IY` (R181). -/
  | pushIY
  /-- `JP (IY)` (R306). -/
  | jpIY
  /-- `LD SP,IY` (R179). -/
  | ldSPIY
  /-- `rot (IY+d),r`, result also copied to `r` (R294). -/
  | rotMIYR (rot : Rot) (d : Byte) (r : Reg8)
  /-- `RLC (IY+d)` (R266). -/
  | rlcMIY (d : Byte)
  /-- `RRC (IY+d)` (R267). -/
  | rrcMIY (d : Byte)
  /-- `RL (IY+d)` (R268). -/
  | rlMIY (d : Byte)
  /-- `RR (IY+d)` (R269). -/
  | rrMIY (d : Byte)
  /-- `SLA (IY+d)` (R270). -/
  | slaMIY (d : Byte)
  /-- `SRA (IY+d)` (R271). -/
  | sraMIY (d : Byte)
  /-- `SLL (IY+d)` (R272). -/
  | sllMIY (d : Byte)
  /-- `SRL (IY+d)` (R273). -/
  | srlMIY (d : Byte)
  /-- `BIT b,(IY+d)`, any `z` (R287). -/
  | bitMIY (b : BitVec 3) (d : Byte) (z : BitVec 3)
  /-- `RES b,(IY+d),r` (R294). -/
  | resMIYR (b : BitVec 3) (d : Byte) (r : Reg8)
  /-- `RES b,(IY+d)` (R293). -/
  | resMIY (b : BitVec 3) (d : Byte)
  /-- `SET b,(IY+d),r` (R294). -/
  | setMIYR (b : BitVec 3) (d : Byte) (r : Reg8)
  /-- `SET b,(IY+d)` (R290). -/
  | setMIY (b : BitVec 3) (d : Byte)
  deriving DecidableEq, Repr

end Sys2Proof
end

