-- ==== Sys2Proof/WellFormed.lean ====
section
/-! DEFINITION. Which terms of `Instr` are instructions: the conditions that 30_encoding.md puts on operands and that
the operand types do not say (rules R105, R107, R112, R116, R158). -/

namespace Sys2Proof

/-- With an index prefix in front, H and L name the index halves, so the unprefixed instruction on H or L has no
prefixed form (rules R112, R116). -/
def Pfx.allowsReg : Pfx → Reg8 → Bool
  | .none, _ => true
  | .dd, r => decide (r ≠ .h) && decide (r ≠ .l)
  | .fd, r => decide (r ≠ .h) && decide (r ≠ .l)

/-- With an index prefix in front, HL names the index register (rules R112, R116). -/
def Pfx.allowsRp : Pfx → Reg16 → Bool
  | .none, _ => true
  | .dd, rp => decide (rp ≠ .hl)
  | .fd, rp => decide (rp ≠ .hl)

/-- As `Pfx.allowsRp`, for the pairs of `PUSH` and `POP`. -/
def Pfx.allowsStk : Pfx → Stk16 → Bool
  | .none, _ => true
  | .dd, q => decide (q ≠ .hl)
  | .fd, q => decide (q ≠ .hl)

/-- The conditions `JR cc` accepts: NZ, Z, NC, C (rule R315). -/
def Cond.isZC : Cond → Bool
  | .nz | .z | .nc | .c => true
  | .po | .pe | .p | .m => false

/-- An operand of rule R158 that names an index half. -/
def XReg8.isHalf : XReg8 → Bool
  | .xh | .xl => true
  | .b | .c | .d | .e | .a => false

/-- The 164 undefined extended opcode bytes of rule R107: `x = 0`, `x = 3`, or `x = 2` with `y < 4` or `z > 3`. -/
def isUndefinedED (op : Byte) : Bool :=
  let x := op.extractLsb' 6 2
  decide (x = 0#2) || decide (x = 3#2) ||
    (decide (x = 2#2) && (decide ((op.extractLsb' 3 3).toNat < 4) || decide (3 < (op.extractLsb' 0 3).toNat)))

/-- The well-formed instructions: exactly the terms that some byte sequence encodes. -/
def Instr.wf : Instr → Bool
  | .nop _ => true
  | .ldRpNN px rp _ => px.allowsRp rp
  | .ldBCA _ => true
  | .incRp px rp => px.allowsRp rp
  | .incR px r => px.allowsReg r
  | .decR px r => px.allowsReg r
  | .ldRN px r _ => px.allowsReg r
  | .rlca _ => true
  | .exAF _ => true
  | .addHLRp _ => true
  | .ldABC _ => true
  | .decRp px rp => px.allowsRp rp
  | .rrca _ => true
  | .djnz _ _ => true
  | .ldDEA _ => true
  | .rla _ => true
  | .jr _ _ => true
  | .ldADE _ => true
  | .rra _ => true
  | .jrCC _ cc _ => cc.isZC
  | .ldMNNHL _ => true
  | .daa _ => true
  | .ldHLMNN _ => true
  | .cpl _ => true
  | .ldMNNA _ _ => true
  | .incMHL => true
  | .decMHL => true
  | .ldMHLN _ => true
  | .scf _ => true
  | .ldAMNN _ _ => true
  | .ccf _ => true
  | .ldRR px dst src => px.allowsReg dst && px.allowsReg src
  | .ldRMHL _ => true
  | .ldMHLR _ => true
  | .halt _ => true
  | .addR px r => px.allowsReg r
  | .addMHL => true
  | .adcR px r => px.allowsReg r
  | .adcMHL => true
  | .subR px r => px.allowsReg r
  | .subMHL => true
  | .sbcR px r => px.allowsReg r
  | .sbcMHL => true
  | .andR px r => px.allowsReg r
  | .andMHL => true
  | .xorR px r => px.allowsReg r
  | .xorMHL => true
  | .orR px r => px.allowsReg r
  | .orMHL => true
  | .cpR px r => px.allowsReg r
  | .cpMHL => true
  | .retCC _ _ => true
  | .popRp2 px q => px.allowsStk q
  | .jpCC _ _ _ => true
  | .jp _ _ => true
  | .callCC _ _ _ => true
  | .pushRp2 px q => px.allowsStk q
  | .addN _ _ => true
  | .adcN _ _ => true
  | .subN _ _ => true
  | .sbcN _ _ => true
  | .andN _ _ => true
  | .xorN _ _ => true
  | .orN _ _ => true
  | .cpN _ _ => true
  | .rst _ _ => true
  | .ret _ => true
  | .call _ _ => true
  | .outNA _ _ => true
  | .exx _ => true
  | .inAN _ _ => true
  | .exSPHL => true
  | .jpHL => true
  | .exDEHL _ => true
  | .di _ => true
  | .ldSPHL => true
  | .ei _ => true
  | .rlcR _ => true
  | .rlcMHL => true
  | .rrcR _ => true
  | .rrcMHL => true
  | .rlR _ => true
  | .rlMHL => true
  | .rrR _ => true
  | .rrMHL => true
  | .slaR _ => true
  | .slaMHL => true
  | .sraR _ => true
  | .sraMHL => true
  | .sllR _ => true
  | .sllMHL => true
  | .srlR _ => true
  | .srlMHL => true
  | .bitR _ _ => true
  | .bitMHL _ => true
  | .resR _ _ => true
  | .resMHL _ => true
  | .setR _ _ => true
  | .setMHL _ => true
  | .undefinedED op => isUndefinedED op
  | .inRC _ => true
  | .outCR _ => true
  | .sbcHLRp _ => true
  | .ldMNNRp _ _ => true
  | .neg => true
  | .retn => true
  | .im0 => true
  | .ldIA => true
  | .adcHLRp _ => true
  | .ldRpMNN _ _ => true
  | .negDup y => decide (y ≠ 0#3)
  | .reti => true
  | .im0Dup y => decide (y = 1#3) || decide (y = 4#3) || decide (y = 5#3)
  | .ldRA => true
  | .retnDup y => decide (y ≠ 0#3) && decide (y ≠ 1#3)
  | .im1 => true
  | .ldAI => true
  | .im2 => true
  | .ldAR => true
  | .rrd => true
  | .rld => true
  | .inC => true
  | .outC0 => true
  | .im1Dup => true
  | .nopED y => decide (y = 6#3) || decide (y = 7#3)
  | .im2Dup => true
  | .ldi => true
  | .cpi => true
  | .ini => true
  | .outi => true
  | .ldd => true
  | .cpd => true
  | .ind => true
  | .outd => true
  | .ldir => true
  | .cpir => true
  | .inir => true
  | .otir => true
  | .lddr => true
  | .cpdr => true
  | .indr => true
  | .otdr => true
  | .addIXRp _ => true
  | .ldIXNN _ => true
  | .ldMNNIX _ => true
  | .incIX => true
  | .incIXHalf _ => true
  | .decIXHalf _ => true
  | .ldIXHalfN _ _ => true
  | .ldIXMNN _ => true
  | .decIX => true
  | .incMIX _ => true
  | .decMIX _ => true
  | .ldMIXN _ _ => true
  | .ldPP dst src => dst.isHalf || src.isHalf
  | .ldRMIX _ _ => true
  | .ldMIXR _ _ => true
  | .addIXHalf _ => true
  | .addMIX _ => true
  | .adcIXHalf _ => true
  | .adcMIX _ => true
  | .subIXHalf _ => true
  | .subMIX _ => true
  | .sbcIXHalf _ => true
  | .sbcMIX _ => true
  | .andIXHalf _ => true
  | .andMIX _ => true
  | .xorIXHalf _ => true
  | .xorMIX _ => true
  | .orIXHalf _ => true
  | .orMIX _ => true
  | .cpIXHalf _ => true
  | .cpMIX _ => true
  | .prefixNop _ _ => true
  | .prefixBeforeED _ => true
  | .popIX => true
  | .exSPIX => true
  | .pushIX => true
  | .jpIX => true
  | .ldSPIX => true
  | .rotMIXR _ _ _ => true
  | .rlcMIX _ => true
  | .rrcMIX _ => true
  | .rlMIX _ => true
  | .rrMIX _ => true
  | .slaMIX _ => true
  | .sraMIX _ => true
  | .sllMIX _ => true
  | .srlMIX _ => true
  | .bitMIX _ _ _ => true
  | .resMIXR _ _ _ => true
  | .resMIX _ _ => true
  | .setMIXR _ _ _ => true
  | .setMIX _ _ => true
  | .addIYRp _ => true
  | .ldIYNN _ => true
  | .ldMNNIY _ => true
  | .incIY => true
  | .incIYHalf _ => true
  | .decIYHalf _ => true
  | .ldIYHalfN _ _ => true
  | .ldIYMNN _ => true
  | .decIY => true
  | .incMIY _ => true
  | .decMIY _ => true
  | .ldMIYN _ _ => true
  | .ldQQ dst src => dst.isHalf || src.isHalf
  | .ldRMIY _ _ => true
  | .ldMIYR _ _ => true
  | .addIYHalf _ => true
  | .addMIY _ => true
  | .adcIYHalf _ => true
  | .adcMIY _ => true
  | .subIYHalf _ => true
  | .subMIY _ => true
  | .sbcIYHalf _ => true
  | .sbcMIY _ => true
  | .andIYHalf _ => true
  | .andMIY _ => true
  | .xorIYHalf _ => true
  | .xorMIY _ => true
  | .orIYHalf _ => true
  | .orMIY _ => true
  | .cpIYHalf _ => true
  | .cpMIY _ => true
  | .popIY => true
  | .exSPIY => true
  | .pushIY => true
  | .jpIY => true
  | .ldSPIY => true
  | .rotMIYR _ _ _ => true
  | .rlcMIY _ => true
  | .rrcMIY _ => true
  | .rlMIY _ => true
  | .rrMIY _ => true
  | .slaMIY _ => true
  | .sraMIY _ => true
  | .sllMIY _ => true
  | .srlMIY _ => true
  | .bitMIY _ _ _ => true
  | .resMIYR _ _ _ => true
  | .resMIY _ _ => true
  | .setMIYR _ _ _ => true
  | .setMIY _ _ => true

end Sys2Proof
end

