-- ==== Sys2Proof/Decode.lean ====
section
/-! DEFINITION. From bytes to instructions and back: the bit fields and byte helpers, the decoder of 30_encoding.md
rules R101 to R121, the formats of rule R102, and the encoder written from the same tables. Decoding a sequence that
holds a whole instruction never fails (rules R104, R121); the one rejection, by name, is of a sequence that is too
short. -/

namespace Sys2Proof

/-! Bit fields and byte order. -/

/-- `{hi, lo}` of rule R8. -/
def mkWord (hi lo : Byte) : Word := hi ++ lo

/-- `v[15:8]`. -/
def hiByte (v : Word) : Byte := v.extractLsb' 8 8

/-- `v[7:0]`. -/
def loByte (v : Word) : Byte := v.extractLsb' 0 8

/-- `sext8` of rule R9, as a 16-bit value. -/
def sext8 (v : Byte) : Word := v.signExtend 16

/-- `x = op[7:6]` of rule R101. -/
def xField (op : Byte) : BitVec 2 := op.extractLsb' 6 2

/-- `y = op[5:3]` of rule R101. -/
def yField (op : Byte) : BitVec 3 := op.extractLsb' 3 3

/-- `z = op[2:0]` of rule R101. -/
def zField (op : Byte) : BitVec 3 := op.extractLsb' 0 3

/-- `p = op[5:4]` of rule R101. -/
def pField (op : Byte) : BitVec 2 := op.extractLsb' 4 2

/-- `q = op[3]` of rule R101. -/
def qField (op : Byte) : Bool := op.getLsbD 3

/-- The opcode byte `{x, y, z}` of rule R101. -/
def opXYZ (x : BitVec 2) (y z : BitVec 3) : Byte := x ++ y ++ z

/-- The opcode byte `{x, p, q, z}` of rule R101. -/
def opXPQZ (x p : BitVec 2) (q : Bool) (z : BitVec 3) : Byte := x ++ p ++ BitVec.ofBool q ++ z

/-! The selection tables of 00_scope.md rule R15, read from a field. -/

/-- `r[i]`; index 6 is no register. -/
def regOf (i : BitVec 3) : Option Reg8 :=
  match i.toNat with
  | 0 => some .b
  | 1 => some .c
  | 2 => some .d
  | 3 => some .e
  | 4 => some .h
  | 5 => some .l
  | 6 => none
  | _ => some .a

/-- `p[i]` of rule R158; index 6 is no register. -/
def xregOf (i : BitVec 3) : Option XReg8 :=
  match i.toNat with
  | 0 => some .b
  | 1 => some .c
  | 2 => some .d
  | 3 => some .e
  | 4 => some .xh
  | 5 => some .xl
  | 6 => none
  | _ => some .a

/-- `rp[i]`. -/
def rpOf (i : BitVec 2) : Reg16 :=
  match i.toNat with
  | 0 => .bc
  | 1 => .de
  | 2 => .hl
  | _ => .sp

/-- `rp2[i]`. -/
def rp2Of (i : BitVec 2) : Stk16 :=
  match i.toNat with
  | 0 => .bc
  | 1 => .de
  | 2 => .hl
  | _ => .af

/-- `cc[i]`. -/
def ccOf (i : BitVec 3) : Cond :=
  match i.toNat with
  | 0 => .nz
  | 1 => .z
  | 2 => .nc
  | 3 => .c
  | 4 => .po
  | 5 => .pe
  | 6 => .p
  | _ => .m

/-- `alu[i]`. -/
def aluOf (i : BitVec 3) : AluOp :=
  match i.toNat with
  | 0 => .add
  | 1 => .adc
  | 2 => .sub
  | 3 => .sbc
  | 4 => .and
  | 5 => .xor
  | 6 => .or
  | _ => .cp

/-- `rot[i]`. -/
def rotOf (i : BitVec 3) : Rot :=
  match i.toNat with
  | 0 => .rlc
  | 1 => .rrc
  | 2 => .rl
  | 3 => .rr
  | 4 => .sla
  | 5 => .sra
  | 6 => .sll
  | _ => .srl

/-- The half that index 4 (high) or 5 (low) selects (rule R112). -/
def halfOf (low : Bool) : Half := if low then .low else .high

/-- The prefix a fall-through instruction carries (rule R116). -/
def Idx.pfx : Idx → Pfx
  | .ix => .dd
  | .iy => .fd

/-! The decoder. -/

/-- `alu[y]` on a register (rules R105, R201). -/
def aluRInstr (op : AluOp) (px : Pfx) (r : Reg8) : Instr :=
  match op with
  | .add => .addR px r
  | .adc => .adcR px r
  | .sub => .subR px r
  | .sbc => .sbcR px r
  | .and => .andR px r
  | .xor => .xorR px r
  | .or => .orR px r
  | .cp => .cpR px r

/-- `alu[y]` on `(HL)` (rules R105, R201). -/
def aluMHLInstr (op : AluOp) : Instr :=
  match op with
  | .add => .addMHL
  | .adc => .adcMHL
  | .sub => .subMHL
  | .sbc => .sbcMHL
  | .and => .andMHL
  | .xor => .xorMHL
  | .or => .orMHL
  | .cp => .cpMHL

/-- `alu[y]` on an immediate (rules R105, R201). -/
def aluNInstr (op : AluOp) (px : Pfx) (n : Byte) : Instr :=
  match op with
  | .add => .addN px n
  | .adc => .adcN px n
  | .sub => .subN px n
  | .sbc => .sbcN px n
  | .and => .andN px n
  | .xor => .xorN px n
  | .or => .orN px n
  | .cp => .cpN px n

/-- `alu[y]` on a half of IX (rules R105, R201). -/
def aluIXHalfInstr (op : AluOp) (h : Half) : Instr :=
  match op with
  | .add => .addIXHalf h
  | .adc => .adcIXHalf h
  | .sub => .subIXHalf h
  | .sbc => .sbcIXHalf h
  | .and => .andIXHalf h
  | .xor => .xorIXHalf h
  | .or => .orIXHalf h
  | .cp => .cpIXHalf h

/-- `alu[y]` on `(IX+d)` (rules R105, R201). -/
def aluMIXInstr (op : AluOp) (d : Byte) : Instr :=
  match op with
  | .add => .addMIX d
  | .adc => .adcMIX d
  | .sub => .subMIX d
  | .sbc => .sbcMIX d
  | .and => .andMIX d
  | .xor => .xorMIX d
  | .or => .orMIX d
  | .cp => .cpMIX d

/-- `alu[y]` on a half of IY (rules R105, R201). -/
def aluIYHalfInstr (op : AluOp) (h : Half) : Instr :=
  match op with
  | .add => .addIYHalf h
  | .adc => .adcIYHalf h
  | .sub => .subIYHalf h
  | .sbc => .sbcIYHalf h
  | .and => .andIYHalf h
  | .xor => .xorIYHalf h
  | .or => .orIYHalf h
  | .cp => .cpIYHalf h

/-- `alu[y]` on `(IY+d)` (rules R105, R201). -/
def aluMIYInstr (op : AluOp) (d : Byte) : Instr :=
  match op with
  | .add => .addMIY d
  | .adc => .adcMIY d
  | .sub => .subMIY d
  | .sbc => .sbcMIY d
  | .and => .andMIY d
  | .xor => .xorMIY d
  | .or => .orMIY d
  | .cp => .cpMIY d

/-- `rot[y]` on a register (rules R106, R117, R265). -/
def rotRInstr (rot : Rot) (r : Reg8) : Instr :=
  match rot with
  | .rlc => .rlcR r
  | .rrc => .rrcR r
  | .rl => .rlR r
  | .rr => .rrR r
  | .sla => .slaR r
  | .sra => .sraR r
  | .sll => .sllR r
  | .srl => .srlR r

/-- `rot[y]` on `(HL)` (rules R106, R117, R265). -/
def rotMHLInstr (rot : Rot) : Instr :=
  match rot with
  | .rlc => .rlcMHL
  | .rrc => .rrcMHL
  | .rl => .rlMHL
  | .rr => .rrMHL
  | .sla => .slaMHL
  | .sra => .sraMHL
  | .sll => .sllMHL
  | .srl => .srlMHL

/-- `rot[y]` on `(IX+d)` (rules R106, R117, R265). -/
def rotMIXInstr (rot : Rot) (d : Byte) : Instr :=
  match rot with
  | .rlc => .rlcMIX d
  | .rrc => .rrcMIX d
  | .rl => .rlMIX d
  | .rr => .rrMIX d
  | .sla => .slaMIX d
  | .sra => .sraMIX d
  | .sll => .sllMIX d
  | .srl => .srlMIX d

/-- `rot[y]` on `(IY+d)` (rules R106, R117, R265). -/
def rotMIYInstr (rot : Rot) (d : Byte) : Instr :=
  match rot with
  | .rlc => .rlcMIY d
  | .rrc => .rrcMIY d
  | .rl => .rlMIY d
  | .rr => .rrMIY d
  | .sla => .slaMIY d
  | .sra => .sraMIY d
  | .sll => .sllMIY d
  | .srl => .srlMIY d

/-- Quarter `x = 0` of the base space (rule R105); `n`, `m` are the two bytes after the opcode. -/
def decodeX0 (px : Pfx) (op n m : Byte) : Instr :=
  let nn := mkWord m n
  let rp := rpOf (pField op)
  let q := qField op
  match (zField op).toNat with
  | 0 =>
    match (yField op).toNat with
    | 0 => .nop px
    | 1 => .exAF px
    | 2 => .djnz px n
    | 3 => .jr px n
    | _ => .jrCC px (ccOf (yField op - 4#3)) n
  | 1 => if q then .addHLRp rp else .ldRpNN px rp nn
  | 2 =>
    match (yField op).toNat with
    | 0 => .ldBCA px
    | 1 => .ldABC px
    | 2 => .ldDEA px
    | 3 => .ldADE px
    | 4 => .ldMNNHL nn
    | 5 => .ldHLMNN nn
    | 6 => .ldMNNA px nn
    | _ => .ldAMNN px nn
  | 3 => if q then .decRp px rp else .incRp px rp
  | 4 =>
    match regOf (yField op) with
    | some r => .incR px r
    | none => .incMHL
  | 5 =>
    match regOf (yField op) with
    | some r => .decR px r
    | none => .decMHL
  | 6 =>
    match regOf (yField op) with
    | some r => .ldRN px r n
    | none => .ldMHLN n
  | _ =>
    match (yField op).toNat with
    | 0 => .rlca px
    | 1 => .rrca px
    | 2 => .rla px
    | 3 => .rra px
    | 4 => .daa px
    | 5 => .cpl px
    | 6 => .scf px
    | _ => .ccf px

/-- Quarter `x = 1` of the base space (rule R105). -/
def decodeX1 (px : Pfx) (op : Byte) : Instr :=
  match regOf (yField op), regOf (zField op) with
  | some dst, some src => .ldRR px dst src
  | some dst, none => .ldRMHL dst
  | none, some src => .ldMHLR src
  | none, none => .halt px

/-- Quarter `x = 2` of the base space (rule R105). -/
def decodeX2 (px : Pfx) (op : Byte) : Instr :=
  match regOf (zField op) with
  | some r => aluRInstr (aluOf (yField op)) px r
  | none => aluMHLInstr (aluOf (yField op))

/-- Quarter `x = 3` of the base space (rule R105). The four prefix slots are tested by `decode4` and `decodePrefixed`
before this function is reached; here they answer `nop`. -/
def decodeX3 (px : Pfx) (op n m : Byte) : Instr :=
  let nn := mkWord m n
  let y := yField op
  let q := qField op
  match (zField op).toNat with
  | 0 => .retCC px (ccOf y)
  | 1 =>
    if q then
      match (pField op).toNat with
      | 0 => .ret px
      | 1 => .exx px
      | 2 => .jpHL
      | _ => .ldSPHL
    else .popRp2 px (rp2Of (pField op))
  | 2 => .jpCC px (ccOf y) nn
  | 3 =>
    match y.toNat with
    | 0 => .jp px nn
    | 1 => .nop px
    | 2 => .outNA px n
    | 3 => .inAN px n
    | 4 => .exSPHL
    | 5 => .exDEHL px
    | 6 => .di px
    | _ => .ei px
  | 4 => .callCC px (ccOf y) nn
  | 5 =>
    if q then
      match (pField op).toNat with
      | 0 => .call px nn
      | _ => .nop px
    else .pushRp2 px (rp2Of (pField op))
  | 6 => aluNInstr (aluOf y) px n
  | _ => .rst px y

/-- The base space (rule R105). -/
def decodeMain (px : Pfx) (op n m : Byte) : Instr :=
  match (xField op).toNat with
  | 0 => decodeX0 px op n m
  | 1 => decodeX1 px op
  | 2 => decodeX2 px op
  | _ => decodeX3 px op n m

/-- The CB space (rule R106). -/
def decodeCB (op : Byte) : Instr :=
  let y := yField op
  match (xField op).toNat, regOf (zField op) with
  | 0, some r => rotRInstr (rotOf y) r
  | 0, none => rotMHLInstr (rotOf y)
  | 1, some r => .bitR y r
  | 1, none => .bitMHL y
  | 2, some r => .resR y r
  | 2, none => .resMHL y
  | _, some r => .setR y r
  | _, none => .setMHL y

/-- The block instructions `bli[y,z]` of rule R107. -/
def decodeBlock (y z : BitVec 3) : Option Instr :=
  match y.toNat, z.toNat with
  | 4, 0 => some .ldi
  | 4, 1 => some .cpi
  | 4, 2 => some .ini
  | 4, 3 => some .outi
  | 5, 0 => some .ldd
  | 5, 1 => some .cpd
  | 5, 2 => some .ind
  | 5, 3 => some .outd
  | 6, 0 => some .ldir
  | 6, 1 => some .cpir
  | 6, 2 => some .inir
  | 6, 3 => some .otir
  | 7, 0 => some .lddr
  | 7, 1 => some .cpdr
  | 7, 2 => some .indr
  | 7, 3 => some .otdr
  | _, _ => none

/-- Quarter `x = 1` of the ED space (rule R107). -/
def decodeED1 (op n m : Byte) : Instr :=
  let nn := mkWord m n
  let y := yField op
  let rp := rpOf (pField op)
  let q := qField op
  match (zField op).toNat with
  | 0 =>
    match regOf y with
    | some r => .inRC r
    | none => .inC
  | 1 =>
    match regOf y with
    | some r => .outCR r
    | none => .outC0
  | 2 => if q then .adcHLRp rp else .sbcHLRp rp
  | 3 => if q then .ldRpMNN rp nn else .ldMNNRp rp nn
  | 4 => if y = 0#3 then .neg else .negDup y
  | 5 => if y = 0#3 then .retn else if y = 1#3 then .reti else .retnDup y
  | 6 =>
    match y.toNat with
    | 0 => .im0
    | 2 => .im1
    | 3 => .im2
    | 6 => .im1Dup
    | 7 => .im2Dup
    | _ => .im0Dup y
  | _ =>
    match y.toNat with
    | 0 => .ldIA
    | 1 => .ldRA
    | 2 => .ldAI
    | 3 => .ldAR
    | 4 => .rrd
    | 5 => .rld
    | _ => .nopED y

/-- The ED space (rule R107). -/
def decodeED (op n m : Byte) : Instr :=
  match (xField op).toNat with
  | 1 => decodeED1 op n m
  | 2 =>
    match decodeBlock (yField op) (zField op) with
    | some i => i
    | none => .undefinedED op
  | _ => .undefinedED op

/-- The instructions that the prefix `0xDD` transforms (rules R111, R112), `none` where it changes nothing; `n`, `m`
are the two bytes after the opcode. -/
def decodeIX (op n m : Byte) : Option Instr :=
  let nn := mkWord m n
  let y := yField op
  let z := zField op
  match (xField op).toNat with
  | 0 =>
    match z.toNat, y.toNat with
    | 1, 4 => some (.ldIXNN nn)
    | 1, _ => if qField op then some (.addIXRp (rpOf (pField op))) else none
    | 2, 4 => some (.ldMNNIX nn)
    | 2, 5 => some (.ldIXMNN nn)
    | 3, 4 => some .incIX
    | 3, 5 => some .decIX
    | 4, 4 => some (.incIXHalf .high)
    | 4, 5 => some (.incIXHalf .low)
    | 4, 6 => some (.incMIX n)
    | 5, 4 => some (.decIXHalf .high)
    | 5, 5 => some (.decIXHalf .low)
    | 5, 6 => some (.decMIX n)
    | 6, 4 => some (.ldIXHalfN .high n)
    | 6, 5 => some (.ldIXHalfN .low n)
    | 6, 6 => some (.ldMIXN n m)
    | _, _ => none
  | 1 =>
    match xregOf y, xregOf z with
    | some dst, some src => if dst.isHalf || src.isHalf then some (.ldPP dst src) else none
    | some _, none => (regOf y).map fun r => .ldRMIX r n
    | none, some _ => (regOf z).map fun r => .ldMIXR r n
    | none, none => none
  | 2 =>
    match z.toNat with
    | 4 => some (aluIXHalfInstr (aluOf y) .high)
    | 5 => some (aluIXHalfInstr (aluOf y) .low)
    | 6 => some (aluMIXInstr (aluOf y) n)
    | _ => none
  | _ =>
    match z.toNat, y.toNat with
    | 1, 4 => some .popIX
    | 1, 5 => some .jpIX
    | 1, 7 => some .ldSPIX
    | 3, 4 => some .exSPIX
    | 5, 4 => some .pushIX
    | _, _ => none

/-- The instructions that the prefix `0xFD` transforms (rules R111, R112), `none` where it changes nothing; `n`, `m`
are the two bytes after the opcode. -/
def decodeIY (op n m : Byte) : Option Instr :=
  let nn := mkWord m n
  let y := yField op
  let z := zField op
  match (xField op).toNat with
  | 0 =>
    match z.toNat, y.toNat with
    | 1, 4 => some (.ldIYNN nn)
    | 1, _ => if qField op then some (.addIYRp (rpOf (pField op))) else none
    | 2, 4 => some (.ldMNNIY nn)
    | 2, 5 => some (.ldIYMNN nn)
    | 3, 4 => some .incIY
    | 3, 5 => some .decIY
    | 4, 4 => some (.incIYHalf .high)
    | 4, 5 => some (.incIYHalf .low)
    | 4, 6 => some (.incMIY n)
    | 5, 4 => some (.decIYHalf .high)
    | 5, 5 => some (.decIYHalf .low)
    | 5, 6 => some (.decMIY n)
    | 6, 4 => some (.ldIYHalfN .high n)
    | 6, 5 => some (.ldIYHalfN .low n)
    | 6, 6 => some (.ldMIYN n m)
    | _, _ => none
  | 1 =>
    match xregOf y, xregOf z with
    | some dst, some src => if dst.isHalf || src.isHalf then some (.ldQQ dst src) else none
    | some _, none => (regOf y).map fun r => .ldRMIY r n
    | none, some _ => (regOf z).map fun r => .ldMIYR r n
    | none, none => none
  | 2 =>
    match z.toNat with
    | 4 => some (aluIYHalfInstr (aluOf y) .high)
    | 5 => some (aluIYHalfInstr (aluOf y) .low)
    | 6 => some (aluMIYInstr (aluOf y) n)
    | _ => none
  | _ =>
    match z.toNat, y.toNat with
    | 1, 4 => some .popIY
    | 1, 5 => some .jpIY
    | 1, 7 => some .ldSPIY
    | 3, 4 => some .exSPIY
    | 5, 4 => some .pushIY
    | _, _ => none

/-- The DDCB space (rule R117): `d` and then the opcode byte. -/
def decodeIXCB (d op : Byte) : Instr :=
  let y := yField op
  match (xField op).toNat, regOf (zField op) with
  | 0, some r => .rotMIXR (rotOf y) d r
  | 0, none => rotMIXInstr (rotOf y) d
  | 1, _ => .bitMIX y d (zField op)
  | 2, some r => .resMIXR y d r
  | 2, none => .resMIX y d
  | _, some r => .setMIXR y d r
  | _, none => .setMIX y d

/-- The FDCB space (rule R117): `d` and then the opcode byte. -/
def decodeIYCB (d op : Byte) : Instr :=
  let y := yField op
  match (xField op).toNat, regOf (zField op) with
  | 0, some r => .rotMIYR (rotOf y) d r
  | 0, none => rotMIYInstr (rotOf y) d
  | 1, _ => .bitMIY y d (zField op)
  | 2, some r => .resMIYR y d r
  | 2, none => .resMIY y d
  | _, some r => .setMIYR y d r
  | _, none => .setMIY y d

/-- The instruction after an index prefix (rules R104, R110, R117, R118, R119). -/
def decodePrefixed (idx : Idx) (b1 b2 b3 : Byte) : Instr :=
  if b1 = 0xDD#8 then .prefixNop idx .ix
  else if b1 = 0xFD#8 then .prefixNop idx .iy
  else if b1 = 0xED#8 then .prefixBeforeED idx
  else if b1 = 0xCB#8 then
    match idx with
    | .ix => decodeIXCB b2 b3
    | .iy => decodeIYCB b2 b3
  else
    let transformed :=
      match idx with
      | .ix => decodeIX b1 b2 b3
      | .iy => decodeIY b1 b2 b3
    match transformed with
    | some i => i
    | none => decodeMain idx.pfx b1 b2 b3

/-- The instruction that four consecutive bytes begin with (rule R104): total, no sequence is illegal (rule R121). -/
def decode4 (b0 b1 b2 b3 : Byte) : Instr :=
  if b0 = 0xCB#8 then decodeCB b1
  else if b0 = 0xED#8 then decodeED b1 b2 b3
  else if b0 = 0xDD#8 then decodePrefixed .ix b1 b2 b3
  else if b0 = 0xFD#8 then decodePrefixed .iy b1 b2 b3
  else decodeMain .none b0 b1 b2

/-! Formats and lengths. -/

/-- The formats of rule R102, and `look`: the two bytes the decoder fetches for a prefix no-op, of which it gives the
second back (rules R104, R118, R119). -/
inductive Format
  | b
  | bn
  | be
  | bnn
  | cb
  | ed
  | edNN
  | x
  | xn
  | xd
  | xdn
  | xnn
  | xcb
  | look
  deriving DecidableEq, Repr

/-- The column "length" of rule R102; for `look` the two bytes fetched. -/
def Format.length : Format → Nat
  | .b => 1
  | .bn => 2
  | .be => 2
  | .bnn => 3
  | .cb => 2
  | .ed => 2
  | .edNN => 4
  | .x => 2
  | .xn => 3
  | .xd => 3
  | .xdn => 4
  | .xnn => 4
  | .xcb => 4
  | .look => 2

/-- The T-states that an index prefix which changes nothing adds (rules R114, R116). -/
def Pfx.extra : Pfx → Nat
  | .none => 0
  | .dd => 4
  | .fd => 4

/-- The bytes a prefix adds in front (rule R116). -/
def Pfx.length : Pfx → Nat
  | .none => 0
  | .dd => 1
  | .fd => 1

/-- The format of the instruction without a prefix that changes nothing (rules R102, R105 to R117). -/
def Instr.format : Instr → Format
  | .nop _ => .b
  | .ldRpNN _ _ _ => .bnn
  | .ldBCA _ => .b
  | .incRp _ _ => .b
  | .incR _ _ => .b
  | .decR _ _ => .b
  | .ldRN _ _ _ => .bn
  | .rlca _ => .b
  | .exAF _ => .b
  | .addHLRp _ => .b
  | .ldABC _ => .b
  | .decRp _ _ => .b
  | .rrca _ => .b
  | .djnz _ _ => .be
  | .ldDEA _ => .b
  | .rla _ => .b
  | .jr _ _ => .be
  | .ldADE _ => .b
  | .rra _ => .b
  | .jrCC _ _ _ => .be
  | .ldMNNHL _ => .bnn
  | .daa _ => .b
  | .ldHLMNN _ => .bnn
  | .cpl _ => .b
  | .ldMNNA _ _ => .bnn
  | .incMHL => .b
  | .decMHL => .b
  | .ldMHLN _ => .bn
  | .scf _ => .b
  | .ldAMNN _ _ => .bnn
  | .ccf _ => .b
  | .ldRR _ _ _ => .b
  | .ldRMHL _ => .b
  | .ldMHLR _ => .b
  | .halt _ => .b
  | .addR _ _ => .b
  | .addMHL => .b
  | .adcR _ _ => .b
  | .adcMHL => .b
  | .subR _ _ => .b
  | .subMHL => .b
  | .sbcR _ _ => .b
  | .sbcMHL => .b
  | .andR _ _ => .b
  | .andMHL => .b
  | .xorR _ _ => .b
  | .xorMHL => .b
  | .orR _ _ => .b
  | .orMHL => .b
  | .cpR _ _ => .b
  | .cpMHL => .b
  | .retCC _ _ => .b
  | .popRp2 _ _ => .b
  | .jpCC _ _ _ => .bnn
  | .jp _ _ => .bnn
  | .callCC _ _ _ => .bnn
  | .pushRp2 _ _ => .b
  | .addN _ _ => .bn
  | .adcN _ _ => .bn
  | .subN _ _ => .bn
  | .sbcN _ _ => .bn
  | .andN _ _ => .bn
  | .xorN _ _ => .bn
  | .orN _ _ => .bn
  | .cpN _ _ => .bn
  | .rst _ _ => .b
  | .ret _ => .b
  | .call _ _ => .bnn
  | .outNA _ _ => .bn
  | .exx _ => .b
  | .inAN _ _ => .bn
  | .exSPHL => .b
  | .jpHL => .b
  | .exDEHL _ => .b
  | .di _ => .b
  | .ldSPHL => .b
  | .ei _ => .b
  | .rlcR _ => .cb
  | .rlcMHL => .cb
  | .rrcR _ => .cb
  | .rrcMHL => .cb
  | .rlR _ => .cb
  | .rlMHL => .cb
  | .rrR _ => .cb
  | .rrMHL => .cb
  | .slaR _ => .cb
  | .slaMHL => .cb
  | .sraR _ => .cb
  | .sraMHL => .cb
  | .sllR _ => .cb
  | .sllMHL => .cb
  | .srlR _ => .cb
  | .srlMHL => .cb
  | .bitR _ _ => .cb
  | .bitMHL _ => .cb
  | .resR _ _ => .cb
  | .resMHL _ => .cb
  | .setR _ _ => .cb
  | .setMHL _ => .cb
  | .undefinedED _ => .ed
  | .inRC _ => .ed
  | .outCR _ => .ed
  | .sbcHLRp _ => .ed
  | .ldMNNRp _ _ => .edNN
  | .neg => .ed
  | .retn => .ed
  | .im0 => .ed
  | .ldIA => .ed
  | .adcHLRp _ => .ed
  | .ldRpMNN _ _ => .edNN
  | .negDup _ => .ed
  | .reti => .ed
  | .im0Dup _ => .ed
  | .ldRA => .ed
  | .retnDup _ => .ed
  | .im1 => .ed
  | .ldAI => .ed
  | .im2 => .ed
  | .ldAR => .ed
  | .rrd => .ed
  | .rld => .ed
  | .inC => .ed
  | .outC0 => .ed
  | .im1Dup => .ed
  | .nopED _ => .ed
  | .im2Dup => .ed
  | .ldi => .ed
  | .cpi => .ed
  | .ini => .ed
  | .outi => .ed
  | .ldd => .ed
  | .cpd => .ed
  | .ind => .ed
  | .outd => .ed
  | .ldir => .ed
  | .cpir => .ed
  | .inir => .ed
  | .otir => .ed
  | .lddr => .ed
  | .cpdr => .ed
  | .indr => .ed
  | .otdr => .ed
  | .addIXRp _ => .x
  | .ldIXNN _ => .xnn
  | .ldMNNIX _ => .xnn
  | .incIX => .x
  | .incIXHalf _ => .x
  | .decIXHalf _ => .x
  | .ldIXHalfN _ _ => .xn
  | .ldIXMNN _ => .xnn
  | .decIX => .x
  | .incMIX _ => .xd
  | .decMIX _ => .xd
  | .ldMIXN _ _ => .xdn
  | .ldPP _ _ => .x
  | .ldRMIX _ _ => .xd
  | .ldMIXR _ _ => .xd
  | .addIXHalf _ => .x
  | .addMIX _ => .xd
  | .adcIXHalf _ => .x
  | .adcMIX _ => .xd
  | .subIXHalf _ => .x
  | .subMIX _ => .xd
  | .sbcIXHalf _ => .x
  | .sbcMIX _ => .xd
  | .andIXHalf _ => .x
  | .andMIX _ => .xd
  | .xorIXHalf _ => .x
  | .xorMIX _ => .xd
  | .orIXHalf _ => .x
  | .orMIX _ => .xd
  | .cpIXHalf _ => .x
  | .cpMIX _ => .xd
  | .prefixNop _ _ => .look
  | .prefixBeforeED _ => .look
  | .popIX => .x
  | .exSPIX => .x
  | .pushIX => .x
  | .jpIX => .x
  | .ldSPIX => .x
  | .rotMIXR _ _ _ => .xcb
  | .rlcMIX _ => .xcb
  | .rrcMIX _ => .xcb
  | .rlMIX _ => .xcb
  | .rrMIX _ => .xcb
  | .slaMIX _ => .xcb
  | .sraMIX _ => .xcb
  | .sllMIX _ => .xcb
  | .srlMIX _ => .xcb
  | .bitMIX _ _ _ => .xcb
  | .resMIXR _ _ _ => .xcb
  | .resMIX _ _ => .xcb
  | .setMIXR _ _ _ => .xcb
  | .setMIX _ _ => .xcb
  | .addIYRp _ => .x
  | .ldIYNN _ => .xnn
  | .ldMNNIY _ => .xnn
  | .incIY => .x
  | .incIYHalf _ => .x
  | .decIYHalf _ => .x
  | .ldIYHalfN _ _ => .xn
  | .ldIYMNN _ => .xnn
  | .decIY => .x
  | .incMIY _ => .xd
  | .decMIY _ => .xd
  | .ldMIYN _ _ => .xdn
  | .ldQQ _ _ => .x
  | .ldRMIY _ _ => .xd
  | .ldMIYR _ _ => .xd
  | .addIYHalf _ => .x
  | .addMIY _ => .xd
  | .adcIYHalf _ => .x
  | .adcMIY _ => .xd
  | .subIYHalf _ => .x
  | .subMIY _ => .xd
  | .sbcIYHalf _ => .x
  | .sbcMIY _ => .xd
  | .andIYHalf _ => .x
  | .andMIY _ => .xd
  | .xorIYHalf _ => .x
  | .xorMIY _ => .xd
  | .orIYHalf _ => .x
  | .orMIY _ => .xd
  | .cpIYHalf _ => .x
  | .cpMIY _ => .xd
  | .popIY => .x
  | .exSPIY => .x
  | .pushIY => .x
  | .jpIY => .x
  | .ldSPIY => .x
  | .rotMIYR _ _ _ => .xcb
  | .rlcMIY _ => .xcb
  | .rrcMIY _ => .xcb
  | .rlMIY _ => .xcb
  | .rrMIY _ => .xcb
  | .slaMIY _ => .xcb
  | .sraMIY _ => .xcb
  | .sllMIY _ => .xcb
  | .srlMIY _ => .xcb
  | .bitMIY _ _ _ => .xcb
  | .resMIYR _ _ _ => .xcb
  | .resMIY _ _ => .xcb
  | .setMIYR _ _ _ => .xcb
  | .setMIY _ _ => .xcb

/-- The prefix of a fall-through form (rule R116). -/
def Instr.pfx : Instr → Pfx
  | .nop px => px
  | .ldRpNN px _ _ => px
  | .ldBCA px => px
  | .incRp px _ => px
  | .incR px _ => px
  | .decR px _ => px
  | .ldRN px _ _ => px
  | .rlca px => px
  | .exAF px => px
  | .addHLRp _ => .none
  | .ldABC px => px
  | .decRp px _ => px
  | .rrca px => px
  | .djnz px _ => px
  | .ldDEA px => px
  | .rla px => px
  | .jr px _ => px
  | .ldADE px => px
  | .rra px => px
  | .jrCC px _ _ => px
  | .ldMNNHL _ => .none
  | .daa px => px
  | .ldHLMNN _ => .none
  | .cpl px => px
  | .ldMNNA px _ => px
  | .incMHL => .none
  | .decMHL => .none
  | .ldMHLN _ => .none
  | .scf px => px
  | .ldAMNN px _ => px
  | .ccf px => px
  | .ldRR px _ _ => px
  | .ldRMHL _ => .none
  | .ldMHLR _ => .none
  | .halt px => px
  | .addR px _ => px
  | .addMHL => .none
  | .adcR px _ => px
  | .adcMHL => .none
  | .subR px _ => px
  | .subMHL => .none
  | .sbcR px _ => px
  | .sbcMHL => .none
  | .andR px _ => px
  | .andMHL => .none
  | .xorR px _ => px
  | .xorMHL => .none
  | .orR px _ => px
  | .orMHL => .none
  | .cpR px _ => px
  | .cpMHL => .none
  | .retCC px _ => px
  | .popRp2 px _ => px
  | .jpCC px _ _ => px
  | .jp px _ => px
  | .callCC px _ _ => px
  | .pushRp2 px _ => px
  | .addN px _ => px
  | .adcN px _ => px
  | .subN px _ => px
  | .sbcN px _ => px
  | .andN px _ => px
  | .xorN px _ => px
  | .orN px _ => px
  | .cpN px _ => px
  | .rst px _ => px
  | .ret px => px
  | .call px _ => px
  | .outNA px _ => px
  | .exx px => px
  | .inAN px _ => px
  | .exSPHL => .none
  | .jpHL => .none
  | .exDEHL px => px
  | .di px => px
  | .ldSPHL => .none
  | .ei px => px
  | .rlcR _ => .none
  | .rlcMHL => .none
  | .rrcR _ => .none
  | .rrcMHL => .none
  | .rlR _ => .none
  | .rlMHL => .none
  | .rrR _ => .none
  | .rrMHL => .none
  | .slaR _ => .none
  | .slaMHL => .none
  | .sraR _ => .none
  | .sraMHL => .none
  | .sllR _ => .none
  | .sllMHL => .none
  | .srlR _ => .none
  | .srlMHL => .none
  | .bitR _ _ => .none
  | .bitMHL _ => .none
  | .resR _ _ => .none
  | .resMHL _ => .none
  | .setR _ _ => .none
  | .setMHL _ => .none
  | .undefinedED _ => .none
  | .inRC _ => .none
  | .outCR _ => .none
  | .sbcHLRp _ => .none
  | .ldMNNRp _ _ => .none
  | .neg => .none
  | .retn => .none
  | .im0 => .none
  | .ldIA => .none
  | .adcHLRp _ => .none
  | .ldRpMNN _ _ => .none
  | .negDup _ => .none
  | .reti => .none
  | .im0Dup _ => .none
  | .ldRA => .none
  | .retnDup _ => .none
  | .im1 => .none
  | .ldAI => .none
  | .im2 => .none
  | .ldAR => .none
  | .rrd => .none
  | .rld => .none
  | .inC => .none
  | .outC0 => .none
  | .im1Dup => .none
  | .nopED _ => .none
  | .im2Dup => .none
  | .ldi => .none
  | .cpi => .none
  | .ini => .none
  | .outi => .none
  | .ldd => .none
  | .cpd => .none
  | .ind => .none
  | .outd => .none
  | .ldir => .none
  | .cpir => .none
  | .inir => .none
  | .otir => .none
  | .lddr => .none
  | .cpdr => .none
  | .indr => .none
  | .otdr => .none
  | .addIXRp _ => .none
  | .ldIXNN _ => .none
  | .ldMNNIX _ => .none
  | .incIX => .none
  | .incIXHalf _ => .none
  | .decIXHalf _ => .none
  | .ldIXHalfN _ _ => .none
  | .ldIXMNN _ => .none
  | .decIX => .none
  | .incMIX _ => .none
  | .decMIX _ => .none
  | .ldMIXN _ _ => .none
  | .ldPP _ _ => .none
  | .ldRMIX _ _ => .none
  | .ldMIXR _ _ => .none
  | .addIXHalf _ => .none
  | .addMIX _ => .none
  | .adcIXHalf _ => .none
  | .adcMIX _ => .none
  | .subIXHalf _ => .none
  | .subMIX _ => .none
  | .sbcIXHalf _ => .none
  | .sbcMIX _ => .none
  | .andIXHalf _ => .none
  | .andMIX _ => .none
  | .xorIXHalf _ => .none
  | .xorMIX _ => .none
  | .orIXHalf _ => .none
  | .orMIX _ => .none
  | .cpIXHalf _ => .none
  | .cpMIX _ => .none
  | .prefixNop _ _ => .none
  | .prefixBeforeED _ => .none
  | .popIX => .none
  | .exSPIX => .none
  | .pushIX => .none
  | .jpIX => .none
  | .ldSPIX => .none
  | .rotMIXR _ _ _ => .none
  | .rlcMIX _ => .none
  | .rrcMIX _ => .none
  | .rlMIX _ => .none
  | .rrMIX _ => .none
  | .slaMIX _ => .none
  | .sraMIX _ => .none
  | .sllMIX _ => .none
  | .srlMIX _ => .none
  | .bitMIX _ _ _ => .none
  | .resMIXR _ _ _ => .none
  | .resMIX _ _ => .none
  | .setMIXR _ _ _ => .none
  | .setMIX _ _ => .none
  | .addIYRp _ => .none
  | .ldIYNN _ => .none
  | .ldMNNIY _ => .none
  | .incIY => .none
  | .incIYHalf _ => .none
  | .decIYHalf _ => .none
  | .ldIYHalfN _ _ => .none
  | .ldIYMNN _ => .none
  | .decIY => .none
  | .incMIY _ => .none
  | .decMIY _ => .none
  | .ldMIYN _ _ => .none
  | .ldQQ _ _ => .none
  | .ldRMIY _ _ => .none
  | .ldMIYR _ _ => .none
  | .addIYHalf _ => .none
  | .addMIY _ => .none
  | .adcIYHalf _ => .none
  | .adcMIY _ => .none
  | .subIYHalf _ => .none
  | .subMIY _ => .none
  | .sbcIYHalf _ => .none
  | .sbcMIY _ => .none
  | .andIYHalf _ => .none
  | .andMIY _ => .none
  | .xorIYHalf _ => .none
  | .xorMIY _ => .none
  | .orIYHalf _ => .none
  | .orMIY _ => .none
  | .cpIYHalf _ => .none
  | .cpMIY _ => .none
  | .popIY => .none
  | .exSPIY => .none
  | .pushIY => .none
  | .jpIY => .none
  | .ldSPIY => .none
  | .rotMIYR _ _ _ => .none
  | .rlcMIY _ => .none
  | .rrcMIY _ => .none
  | .rlMIY _ => .none
  | .rrMIY _ => .none
  | .slaMIY _ => .none
  | .sraMIY _ => .none
  | .sllMIY _ => .none
  | .srlMIY _ => .none
  | .bitMIY _ _ _ => .none
  | .resMIYR _ _ _ => .none
  | .resMIY _ _ => .none
  | .setMIYR _ _ _ => .none
  | .setMIY _ _ => .none

/-- How many bytes the decoder fetches for the instruction (rule R120); a fall-through form is one byte longer (rule
R390). -/
def Instr.size (i : Instr) : Nat := i.pfx.length + i.format.length

/-- Why a byte sequence is not decoded. -/
inductive DecodeReject
  /-- The sequence ends before the instruction it begins does. -/
  | truncated
  deriving DecidableEq, Repr

/-- The instruction at the head of a byte sequence, and the bytes after those the decoder fetches. -/
def decode (bs : List Byte) : Except DecodeReject (Instr × List Byte) :=
  let i := decode4 (bs.getD 0 0#8) (bs.getD 1 0#8) (bs.getD 2 0#8) (bs.getD 3 0#8)
  if i.size ≤ bs.length then .ok (i, bs.drop i.size) else .error .truncated

/-- Byte `k` of an instruction whose bits the opcode table numbers from bit 0 of the first byte. -/
def tableByte (nbits w k : Nat) : Byte := BitVec.ofNat 8 ((w % 2 ^ nbits) / 2 ^ (8 * k))

/-- The instruction the decoder reads from a table word, the bits above `nbits` zero. -/
def decodeTableWord (nbits w : Nat) : Option Instr :=
  match decode [tableByte nbits w 0, tableByte nbits w 1, tableByte nbits w 2, tableByte nbits w 3] with
  | .ok (i, _) => some i
  | .error _ => none

/-! The encoder. -/

/-- The index of a register in `r[]` (rule R15). -/
def Reg8.code : Reg8 → BitVec 3
  | .b => 0#3
  | .c => 1#3
  | .d => 2#3
  | .e => 3#3
  | .h => 4#3
  | .l => 5#3
  | .a => 7#3

/-- The index of an operand in `p[]`, `q[]` (rule R158). -/
def XReg8.code : XReg8 → BitVec 3
  | .b => 0#3
  | .c => 1#3
  | .d => 2#3
  | .e => 3#3
  | .xh => 4#3
  | .xl => 5#3
  | .a => 7#3

/-- The index in `rp[]`. -/
def Reg16.code : Reg16 → BitVec 2
  | .bc => 0#2
  | .de => 1#2
  | .hl => 2#2
  | .sp => 3#2

/-- The index in `rp2[]`. -/
def Stk16.code : Stk16 → BitVec 2
  | .bc => 0#2
  | .de => 1#2
  | .hl => 2#2
  | .af => 3#2

/-- The index in `cc[]`. -/
def Cond.code : Cond → BitVec 3
  | .nz => 0#3
  | .z => 1#3
  | .nc => 2#3
  | .c => 3#3
  | .po => 4#3
  | .pe => 5#3
  | .p => 6#3
  | .m => 7#3

/-- The index in `alu[]`. -/
def AluOp.code : AluOp → BitVec 3
  | .add => 0#3
  | .adc => 1#3
  | .sub => 2#3
  | .sbc => 3#3
  | .and => 4#3
  | .xor => 5#3
  | .or => 6#3
  | .cp => 7#3

/-- The index in `rot[]`. -/
def Rot.code : Rot → BitVec 3
  | .rlc => 0#3
  | .rrc => 1#3
  | .rl => 2#3
  | .rr => 3#3
  | .sla => 4#3
  | .sra => 5#3
  | .sll => 6#3
  | .srl => 7#3

/-- The register index that selects the half (rule R112). -/
def Half.code : Half → BitVec 3
  | .high => 4#3
  | .low => 5#3

/-- The prefix byte of a fall-through form. -/
def Pfx.bytes : Pfx → List Byte
  | .none => []
  | .dd => [0xDD#8]
  | .fd => [0xFD#8]

/-- The prefix byte of an index register (rule R104). -/
def Idx.byte : Idx → Byte
  | .ix => 0xDD#8
  | .iy => 0xFD#8

/-- The bytes of an instruction in fetch order (rule R102). For a prefix no-op these are the prefix and the byte the
decoder looks at. -/
def encode : Instr → List Byte
  | .nop px => px.bytes ++ [0x00#8]
  | .ldRpNN px rp nn => px.bytes ++ [opXPQZ 0#2 rp.code false 1#3, loByte nn, hiByte nn]
  | .ldBCA px => px.bytes ++ [0x02#8]
  | .incRp px rp => px.bytes ++ [opXPQZ 0#2 rp.code false 3#3]
  | .incR px r => px.bytes ++ [opXYZ 0#2 r.code 4#3]
  | .decR px r => px.bytes ++ [opXYZ 0#2 r.code 5#3]
  | .ldRN px r n => px.bytes ++ [opXYZ 0#2 r.code 6#3, n]
  | .rlca px => px.bytes ++ [0x07#8]
  | .exAF px => px.bytes ++ [0x08#8]
  | .addHLRp rp => [opXPQZ 0#2 rp.code true 1#3]
  | .ldABC px => px.bytes ++ [0x0A#8]
  | .decRp px rp => px.bytes ++ [opXPQZ 0#2 rp.code true 3#3]
  | .rrca px => px.bytes ++ [0x0F#8]
  | .djnz px e => px.bytes ++ [0x10#8, e]
  | .ldDEA px => px.bytes ++ [0x12#8]
  | .rla px => px.bytes ++ [0x17#8]
  | .jr px e => px.bytes ++ [0x18#8, e]
  | .ldADE px => px.bytes ++ [0x1A#8]
  | .rra px => px.bytes ++ [0x1F#8]
  | .jrCC px cc e => px.bytes ++ [opXYZ 0#2 (cc.code + 4#3) 0#3, e]
  | .ldMNNHL nn => [0x22#8, loByte nn, hiByte nn]
  | .daa px => px.bytes ++ [0x27#8]
  | .ldHLMNN nn => [0x2A#8, loByte nn, hiByte nn]
  | .cpl px => px.bytes ++ [0x2F#8]
  | .ldMNNA px nn => px.bytes ++ [0x32#8, loByte nn, hiByte nn]
  | .incMHL => [0x34#8]
  | .decMHL => [0x35#8]
  | .ldMHLN n => [0x36#8, n]
  | .scf px => px.bytes ++ [0x37#8]
  | .ldAMNN px nn => px.bytes ++ [0x3A#8, loByte nn, hiByte nn]
  | .ccf px => px.bytes ++ [0x3F#8]
  | .ldRR px dst src => px.bytes ++ [opXYZ 1#2 dst.code src.code]
  | .ldRMHL r => [opXYZ 1#2 r.code 6#3]
  | .ldMHLR r => [opXYZ 1#2 6#3 r.code]
  | .halt px => px.bytes ++ [0x76#8]
  | .addR px r => px.bytes ++ [opXYZ 2#2 AluOp.add.code r.code]
  | .addMHL => [opXYZ 2#2 AluOp.add.code 6#3]
  | .adcR px r => px.bytes ++ [opXYZ 2#2 AluOp.adc.code r.code]
  | .adcMHL => [opXYZ 2#2 AluOp.adc.code 6#3]
  | .subR px r => px.bytes ++ [opXYZ 2#2 AluOp.sub.code r.code]
  | .subMHL => [opXYZ 2#2 AluOp.sub.code 6#3]
  | .sbcR px r => px.bytes ++ [opXYZ 2#2 AluOp.sbc.code r.code]
  | .sbcMHL => [opXYZ 2#2 AluOp.sbc.code 6#3]
  | .andR px r => px.bytes ++ [opXYZ 2#2 AluOp.and.code r.code]
  | .andMHL => [opXYZ 2#2 AluOp.and.code 6#3]
  | .xorR px r => px.bytes ++ [opXYZ 2#2 AluOp.xor.code r.code]
  | .xorMHL => [opXYZ 2#2 AluOp.xor.code 6#3]
  | .orR px r => px.bytes ++ [opXYZ 2#2 AluOp.or.code r.code]
  | .orMHL => [opXYZ 2#2 AluOp.or.code 6#3]
  | .cpR px r => px.bytes ++ [opXYZ 2#2 AluOp.cp.code r.code]
  | .cpMHL => [opXYZ 2#2 AluOp.cp.code 6#3]
  | .retCC px cc => px.bytes ++ [opXYZ 3#2 cc.code 0#3]
  | .popRp2 px q => px.bytes ++ [opXPQZ 3#2 q.code false 1#3]
  | .jpCC px cc nn => px.bytes ++ [opXYZ 3#2 cc.code 2#3, loByte nn, hiByte nn]
  | .jp px nn => px.bytes ++ [0xC3#8, loByte nn, hiByte nn]
  | .callCC px cc nn => px.bytes ++ [opXYZ 3#2 cc.code 4#3, loByte nn, hiByte nn]
  | .pushRp2 px q => px.bytes ++ [opXPQZ 3#2 q.code false 5#3]
  | .addN px n => px.bytes ++ [opXYZ 3#2 AluOp.add.code 6#3, n]
  | .adcN px n => px.bytes ++ [opXYZ 3#2 AluOp.adc.code 6#3, n]
  | .subN px n => px.bytes ++ [opXYZ 3#2 AluOp.sub.code 6#3, n]
  | .sbcN px n => px.bytes ++ [opXYZ 3#2 AluOp.sbc.code 6#3, n]
  | .andN px n => px.bytes ++ [opXYZ 3#2 AluOp.and.code 6#3, n]
  | .xorN px n => px.bytes ++ [opXYZ 3#2 AluOp.xor.code 6#3, n]
  | .orN px n => px.bytes ++ [opXYZ 3#2 AluOp.or.code 6#3, n]
  | .cpN px n => px.bytes ++ [opXYZ 3#2 AluOp.cp.code 6#3, n]
  | .rst px y => px.bytes ++ [opXYZ 3#2 y 7#3]
  | .ret px => px.bytes ++ [0xC9#8]
  | .call px nn => px.bytes ++ [0xCD#8, loByte nn, hiByte nn]
  | .outNA px n => px.bytes ++ [0xD3#8, n]
  | .exx px => px.bytes ++ [0xD9#8]
  | .inAN px n => px.bytes ++ [0xDB#8, n]
  | .exSPHL => [0xE3#8]
  | .jpHL => [0xE9#8]
  | .exDEHL px => px.bytes ++ [0xEB#8]
  | .di px => px.bytes ++ [0xF3#8]
  | .ldSPHL => [0xF9#8]
  | .ei px => px.bytes ++ [0xFB#8]
  | .rlcR r => [0xCB#8, opXYZ 0#2 Rot.rlc.code r.code]
  | .rlcMHL => [0xCB#8, opXYZ 0#2 Rot.rlc.code 6#3]
  | .rrcR r => [0xCB#8, opXYZ 0#2 Rot.rrc.code r.code]
  | .rrcMHL => [0xCB#8, opXYZ 0#2 Rot.rrc.code 6#3]
  | .rlR r => [0xCB#8, opXYZ 0#2 Rot.rl.code r.code]
  | .rlMHL => [0xCB#8, opXYZ 0#2 Rot.rl.code 6#3]
  | .rrR r => [0xCB#8, opXYZ 0#2 Rot.rr.code r.code]
  | .rrMHL => [0xCB#8, opXYZ 0#2 Rot.rr.code 6#3]
  | .slaR r => [0xCB#8, opXYZ 0#2 Rot.sla.code r.code]
  | .slaMHL => [0xCB#8, opXYZ 0#2 Rot.sla.code 6#3]
  | .sraR r => [0xCB#8, opXYZ 0#2 Rot.sra.code r.code]
  | .sraMHL => [0xCB#8, opXYZ 0#2 Rot.sra.code 6#3]
  | .sllR r => [0xCB#8, opXYZ 0#2 Rot.sll.code r.code]
  | .sllMHL => [0xCB#8, opXYZ 0#2 Rot.sll.code 6#3]
  | .srlR r => [0xCB#8, opXYZ 0#2 Rot.srl.code r.code]
  | .srlMHL => [0xCB#8, opXYZ 0#2 Rot.srl.code 6#3]
  | .bitR b r => [0xCB#8, opXYZ 1#2 b r.code]
  | .bitMHL b => [0xCB#8, opXYZ 1#2 b 6#3]
  | .resR b r => [0xCB#8, opXYZ 2#2 b r.code]
  | .resMHL b => [0xCB#8, opXYZ 2#2 b 6#3]
  | .setR b r => [0xCB#8, opXYZ 3#2 b r.code]
  | .setMHL b => [0xCB#8, opXYZ 3#2 b 6#3]
  | .undefinedED op => [0xED#8, op]
  | .inRC r => [0xED#8, opXYZ 1#2 r.code 0#3]
  | .outCR r => [0xED#8, opXYZ 1#2 r.code 1#3]
  | .sbcHLRp rp => [0xED#8, opXPQZ 1#2 rp.code false 2#3]
  | .ldMNNRp rp nn => [0xED#8, opXPQZ 1#2 rp.code false 3#3, loByte nn, hiByte nn]
  | .neg => [0xED#8, 0x44#8]
  | .retn => [0xED#8, 0x45#8]
  | .im0 => [0xED#8, 0x46#8]
  | .ldIA => [0xED#8, 0x47#8]
  | .adcHLRp rp => [0xED#8, opXPQZ 1#2 rp.code true 2#3]
  | .ldRpMNN rp nn => [0xED#8, opXPQZ 1#2 rp.code true 3#3, loByte nn, hiByte nn]
  | .negDup y => [0xED#8, opXYZ 1#2 y 4#3]
  | .reti => [0xED#8, 0x4D#8]
  | .im0Dup y => [0xED#8, opXYZ 1#2 y 6#3]
  | .ldRA => [0xED#8, 0x4F#8]
  | .retnDup y => [0xED#8, opXYZ 1#2 y 5#3]
  | .im1 => [0xED#8, 0x56#8]
  | .ldAI => [0xED#8, 0x57#8]
  | .im2 => [0xED#8, 0x5E#8]
  | .ldAR => [0xED#8, 0x5F#8]
  | .rrd => [0xED#8, 0x67#8]
  | .rld => [0xED#8, 0x6F#8]
  | .inC => [0xED#8, 0x70#8]
  | .outC0 => [0xED#8, 0x71#8]
  | .im1Dup => [0xED#8, 0x76#8]
  | .nopED y => [0xED#8, opXYZ 1#2 y 7#3]
  | .im2Dup => [0xED#8, 0x7E#8]
  | .ldi => [0xED#8, 0xA0#8]
  | .cpi => [0xED#8, 0xA1#8]
  | .ini => [0xED#8, 0xA2#8]
  | .outi => [0xED#8, 0xA3#8]
  | .ldd => [0xED#8, 0xA8#8]
  | .cpd => [0xED#8, 0xA9#8]
  | .ind => [0xED#8, 0xAA#8]
  | .outd => [0xED#8, 0xAB#8]
  | .ldir => [0xED#8, 0xB0#8]
  | .cpir => [0xED#8, 0xB1#8]
  | .inir => [0xED#8, 0xB2#8]
  | .otir => [0xED#8, 0xB3#8]
  | .lddr => [0xED#8, 0xB8#8]
  | .cpdr => [0xED#8, 0xB9#8]
  | .indr => [0xED#8, 0xBA#8]
  | .otdr => [0xED#8, 0xBB#8]
  | .addIXRp rp => [0xDD#8, opXPQZ 0#2 rp.code true 1#3]
  | .ldIXNN nn => [0xDD#8, 0x21#8, loByte nn, hiByte nn]
  | .ldMNNIX nn => [0xDD#8, 0x22#8, loByte nn, hiByte nn]
  | .incIX => [0xDD#8, 0x23#8]
  | .incIXHalf h => [0xDD#8, opXYZ 0#2 h.code 4#3]
  | .decIXHalf h => [0xDD#8, opXYZ 0#2 h.code 5#3]
  | .ldIXHalfN h n => [0xDD#8, opXYZ 0#2 h.code 6#3, n]
  | .ldIXMNN nn => [0xDD#8, 0x2A#8, loByte nn, hiByte nn]
  | .decIX => [0xDD#8, 0x2B#8]
  | .incMIX d => [0xDD#8, 0x34#8, d]
  | .decMIX d => [0xDD#8, 0x35#8, d]
  | .ldMIXN d n => [0xDD#8, 0x36#8, d, n]
  | .ldPP dst src => [0xDD#8, opXYZ 1#2 dst.code src.code]
  | .ldRMIX r d => [0xDD#8, opXYZ 1#2 r.code 6#3, d]
  | .ldMIXR r d => [0xDD#8, opXYZ 1#2 6#3 r.code, d]
  | .addIXHalf h => [0xDD#8, opXYZ 2#2 AluOp.add.code h.code]
  | .addMIX d => [0xDD#8, opXYZ 2#2 AluOp.add.code 6#3, d]
  | .adcIXHalf h => [0xDD#8, opXYZ 2#2 AluOp.adc.code h.code]
  | .adcMIX d => [0xDD#8, opXYZ 2#2 AluOp.adc.code 6#3, d]
  | .subIXHalf h => [0xDD#8, opXYZ 2#2 AluOp.sub.code h.code]
  | .subMIX d => [0xDD#8, opXYZ 2#2 AluOp.sub.code 6#3, d]
  | .sbcIXHalf h => [0xDD#8, opXYZ 2#2 AluOp.sbc.code h.code]
  | .sbcMIX d => [0xDD#8, opXYZ 2#2 AluOp.sbc.code 6#3, d]
  | .andIXHalf h => [0xDD#8, opXYZ 2#2 AluOp.and.code h.code]
  | .andMIX d => [0xDD#8, opXYZ 2#2 AluOp.and.code 6#3, d]
  | .xorIXHalf h => [0xDD#8, opXYZ 2#2 AluOp.xor.code h.code]
  | .xorMIX d => [0xDD#8, opXYZ 2#2 AluOp.xor.code 6#3, d]
  | .orIXHalf h => [0xDD#8, opXYZ 2#2 AluOp.or.code h.code]
  | .orMIX d => [0xDD#8, opXYZ 2#2 AluOp.or.code 6#3, d]
  | .cpIXHalf h => [0xDD#8, opXYZ 2#2 AluOp.cp.code h.code]
  | .cpMIX d => [0xDD#8, opXYZ 2#2 AluOp.cp.code 6#3, d]
  | .prefixNop first second => [first.byte, second.byte]
  | .prefixBeforeED first => [first.byte, 0xED#8]
  | .popIX => [0xDD#8, 0xE1#8]
  | .exSPIX => [0xDD#8, 0xE3#8]
  | .pushIX => [0xDD#8, 0xE5#8]
  | .jpIX => [0xDD#8, 0xE9#8]
  | .ldSPIX => [0xDD#8, 0xF9#8]
  | .rotMIXR rot d r => [0xDD#8, 0xCB#8, d, opXYZ 0#2 rot.code r.code]
  | .rlcMIX d => [0xDD#8, 0xCB#8, d, opXYZ 0#2 Rot.rlc.code 6#3]
  | .rrcMIX d => [0xDD#8, 0xCB#8, d, opXYZ 0#2 Rot.rrc.code 6#3]
  | .rlMIX d => [0xDD#8, 0xCB#8, d, opXYZ 0#2 Rot.rl.code 6#3]
  | .rrMIX d => [0xDD#8, 0xCB#8, d, opXYZ 0#2 Rot.rr.code 6#3]
  | .slaMIX d => [0xDD#8, 0xCB#8, d, opXYZ 0#2 Rot.sla.code 6#3]
  | .sraMIX d => [0xDD#8, 0xCB#8, d, opXYZ 0#2 Rot.sra.code 6#3]
  | .sllMIX d => [0xDD#8, 0xCB#8, d, opXYZ 0#2 Rot.sll.code 6#3]
  | .srlMIX d => [0xDD#8, 0xCB#8, d, opXYZ 0#2 Rot.srl.code 6#3]
  | .bitMIX b d z => [0xDD#8, 0xCB#8, d, opXYZ 1#2 b z]
  | .resMIXR b d r => [0xDD#8, 0xCB#8, d, opXYZ 2#2 b r.code]
  | .resMIX b d => [0xDD#8, 0xCB#8, d, opXYZ 2#2 b 6#3]
  | .setMIXR b d r => [0xDD#8, 0xCB#8, d, opXYZ 3#2 b r.code]
  | .setMIX b d => [0xDD#8, 0xCB#8, d, opXYZ 3#2 b 6#3]
  | .addIYRp rp => [0xFD#8, opXPQZ 0#2 rp.code true 1#3]
  | .ldIYNN nn => [0xFD#8, 0x21#8, loByte nn, hiByte nn]
  | .ldMNNIY nn => [0xFD#8, 0x22#8, loByte nn, hiByte nn]
  | .incIY => [0xFD#8, 0x23#8]
  | .incIYHalf h => [0xFD#8, opXYZ 0#2 h.code 4#3]
  | .decIYHalf h => [0xFD#8, opXYZ 0#2 h.code 5#3]
  | .ldIYHalfN h n => [0xFD#8, opXYZ 0#2 h.code 6#3, n]
  | .ldIYMNN nn => [0xFD#8, 0x2A#8, loByte nn, hiByte nn]
  | .decIY => [0xFD#8, 0x2B#8]
  | .incMIY d => [0xFD#8, 0x34#8, d]
  | .decMIY d => [0xFD#8, 0x35#8, d]
  | .ldMIYN d n => [0xFD#8, 0x36#8, d, n]
  | .ldQQ dst src => [0xFD#8, opXYZ 1#2 dst.code src.code]
  | .ldRMIY r d => [0xFD#8, opXYZ 1#2 r.code 6#3, d]
  | .ldMIYR r d => [0xFD#8, opXYZ 1#2 6#3 r.code, d]
  | .addIYHalf h => [0xFD#8, opXYZ 2#2 AluOp.add.code h.code]
  | .addMIY d => [0xFD#8, opXYZ 2#2 AluOp.add.code 6#3, d]
  | .adcIYHalf h => [0xFD#8, opXYZ 2#2 AluOp.adc.code h.code]
  | .adcMIY d => [0xFD#8, opXYZ 2#2 AluOp.adc.code 6#3, d]
  | .subIYHalf h => [0xFD#8, opXYZ 2#2 AluOp.sub.code h.code]
  | .subMIY d => [0xFD#8, opXYZ 2#2 AluOp.sub.code 6#3, d]
  | .sbcIYHalf h => [0xFD#8, opXYZ 2#2 AluOp.sbc.code h.code]
  | .sbcMIY d => [0xFD#8, opXYZ 2#2 AluOp.sbc.code 6#3, d]
  | .andIYHalf h => [0xFD#8, opXYZ 2#2 AluOp.and.code h.code]
  | .andMIY d => [0xFD#8, opXYZ 2#2 AluOp.and.code 6#3, d]
  | .xorIYHalf h => [0xFD#8, opXYZ 2#2 AluOp.xor.code h.code]
  | .xorMIY d => [0xFD#8, opXYZ 2#2 AluOp.xor.code 6#3, d]
  | .orIYHalf h => [0xFD#8, opXYZ 2#2 AluOp.or.code h.code]
  | .orMIY d => [0xFD#8, opXYZ 2#2 AluOp.or.code 6#3, d]
  | .cpIYHalf h => [0xFD#8, opXYZ 2#2 AluOp.cp.code h.code]
  | .cpMIY d => [0xFD#8, opXYZ 2#2 AluOp.cp.code 6#3, d]
  | .popIY => [0xFD#8, 0xE1#8]
  | .exSPIY => [0xFD#8, 0xE3#8]
  | .pushIY => [0xFD#8, 0xE5#8]
  | .jpIY => [0xFD#8, 0xE9#8]
  | .ldSPIY => [0xFD#8, 0xF9#8]
  | .rotMIYR rot d r => [0xFD#8, 0xCB#8, d, opXYZ 0#2 rot.code r.code]
  | .rlcMIY d => [0xFD#8, 0xCB#8, d, opXYZ 0#2 Rot.rlc.code 6#3]
  | .rrcMIY d => [0xFD#8, 0xCB#8, d, opXYZ 0#2 Rot.rrc.code 6#3]
  | .rlMIY d => [0xFD#8, 0xCB#8, d, opXYZ 0#2 Rot.rl.code 6#3]
  | .rrMIY d => [0xFD#8, 0xCB#8, d, opXYZ 0#2 Rot.rr.code 6#3]
  | .slaMIY d => [0xFD#8, 0xCB#8, d, opXYZ 0#2 Rot.sla.code 6#3]
  | .sraMIY d => [0xFD#8, 0xCB#8, d, opXYZ 0#2 Rot.sra.code 6#3]
  | .sllMIY d => [0xFD#8, 0xCB#8, d, opXYZ 0#2 Rot.sll.code 6#3]
  | .srlMIY d => [0xFD#8, 0xCB#8, d, opXYZ 0#2 Rot.srl.code 6#3]
  | .bitMIY b d z => [0xFD#8, 0xCB#8, d, opXYZ 1#2 b z]
  | .resMIYR b d r => [0xFD#8, 0xCB#8, d, opXYZ 2#2 b r.code]
  | .resMIY b d => [0xFD#8, 0xCB#8, d, opXYZ 2#2 b 6#3]
  | .setMIYR b d r => [0xFD#8, 0xCB#8, d, opXYZ 3#2 b r.code]
  | .setMIY b d => [0xFD#8, 0xCB#8, d, opXYZ 3#2 b 6#3]

end Sys2Proof
end

