-- ==== Sys2Proof/Config.lean ====
section
/-! DEFINITION. The named parameters of 00_scope.md rule R7 that are fixed for a run, the admitted values of them,
the recommended values, and the open values of the spec that no parameter fixes (`freeByte`, `hCount`, `roundsAway`). -/

namespace Sys2Proof

/-- VIDEO_STANDARD of rule R7 (decision D26). -/
inductive VideoStandard
  | ntsc
  | pal
  deriving DecidableEq, Repr

/-- ED_UNDEFINED of rule R7 (rule R388, decision D11): what an undefined extended opcode does. -/
inductive EdUndefined
  /-- No operation, the spec's default. -/
  | nop
  /-- Clear both enables and request a deferred enable, as the source does. -/
  | sourceNoni
  deriving DecidableEq, Repr

/-- A floating-point number, `significand * 2 ^ exponent`: what a PSG sample is ("a mono floating-point audio sample",
rule R509; log 9). -/
structure Sample where
  significand : Int
  exponent : Int
  deriving DecidableEq, Repr

/-- Silence. -/
def Sample.zero : Sample where
  significand := 0
  exponent := 0

/-- The numbers of a format whose significands have `bits` bits, each in one form: zero, or a significand whose top bit
is set. -/
def Sample.fits (bits : Nat) (x : Sample) : Bool :=
  decide (x = Sample.zero) || decide (2 ^ (bits - 1) ≤ x.significand.natAbs ∧ x.significand.natAbs < 2 ^ bits)

/-- The parameters of rule R7 that a run fixes (rules R388, R415, R417, R463, R507). They are plain data and stand in
`State.cfg`, so a claim about every state is a claim about every admitted value. HCOUNT is `Config.hCount` below. -/
structure Config where
  /-- INT_DATA_BYTE: the low half of the mode-2 table pointer (rule R417, decision D6). -/
  intDataByte : Byte
  /-- ED_UNDEFINED (rule R388, decision D11). -/
  edUndefined : EdUndefined
  /-- PAUSE_SAMPLE_LINE: `none`, or the V-counter value at which NMI_REQ is sampled (rule R415, decision D24). -/
  pauseSampleLine : Option Byte
  /-- VIDEO_STANDARD (rule R463, decision D26). -/
  video : VideoStandard
  /-- CYCLES_PER_LINE (rule R463). -/
  cyclesPerLine : Nat
  /-- LINES_PER_FRAME (rule R463). -/
  linesPerFrame : Nat
  /-- ACTIVE_HEIGHT (rule R463). -/
  activeHeight : Nat
  /-- FRAME_INT_LINE (rule R463). -/
  frameIntLine : Nat
  /-- VJUMP_FROM: the last V-counter value before the jump (rule R464). -/
  vJumpFrom : Nat
  /-- VJUMP_TO: the V-counter value after the jump (rule R464). -/
  vJumpTo : Nat
  /-- PSG_CYCLES_PER_SAMPLE (rule R507). -/
  psgCyclesPerSample : Nat
  /-- PSG_DECREMENT (rule R507). -/
  psgDecrement : Nat
  /-- PSG_MIN_PERIOD (rule R507). -/
  psgMinPeriod : Nat
  /-- The first of PSG_TAPS (rule R507). -/
  psgTap0 : Nat
  /-- The second of PSG_TAPS (rule R507). -/
  psgTap1 : Nat
  /-- The floating-point format of samples, by the bits of its significand (rule R509 names no format, log 9). -/
  psgFloatBits : Nat
  /-- PSG_VOLUME_TABLE (rule R507). -/
  psgVolumeTable : Vector Sample 16
  /-- PSG_READY_SAMPLES, the host's choice (rule R507). -/
  psgReadySamples : Nat
  /-- The length of the output ring buffer OUT (rule R509; the spec gives no number, log 9). -/
  psgOutLength : Nat
  deriving DecidableEq, Repr

/-- The admitted values: the constraint of rule R464 on the V-counter, positive periods, the frame-interrupt
line inside the frame (rule R466), taps inside the 15-bit register, volumes that are numbers of the format, silence at
the top volume value (rule R507; DEDUCED, log 2). -/
def Config.wf (c : Config) : Bool :=
  decide (0 < c.cyclesPerLine) && decide (0 < c.linesPerFrame) &&
  decide (c.vJumpFrom ≤ 0xFF) && decide (c.vJumpTo ≤ 0xFF) &&
  decide ((c.vJumpFrom + 1) + (0x100 - c.vJumpTo) = c.linesPerFrame) &&
  decide (c.frameIntLine < c.linesPerFrame) &&
  decide (0 < c.psgCyclesPerSample) && decide (0 < c.psgDecrement) &&
  decide (c.psgTap0 < 15) && decide (c.psgTap1 < 15) &&
  decide (0 < c.psgFloatBits) && c.psgVolumeTable.toList.all (Sample.fits c.psgFloatBits) &&
  decide (c.psgVolumeTable[15] = Sample.zero) && decide (0 < c.psgReadySamples) && decide (0 < c.psgOutLength)

/-- PSG_VOLUME_TABLE of rule R507: entry `i` is the number with a 53-bit significand nearest to `10 ^ (-0.1 * i)` scaled
to a quarter of full scale, full scale being 1, and entry 15 is 0 (DESIGN CHOICE of the format, log 9). -/
def Config.recommendedVolumes : Vector Sample 16 :=
  #v[⟨0x10000000000000, -54⟩, ⟨0x196B230BCDC434, -55⟩, ⟨0x1430CD74F6D478, -55⟩,
    ⟨0x1009B9CF334252, -55⟩, ⟨0x197A967F7524B3, -56⟩, ⟨0x143D136248490F, -56⟩,
    ⟨0x10137987DD704C, -56⟩, ⟨0x198A13577C93C0, -57⟩, ⟨0x144960C576B375, -57⟩,
    ⟨0x101D3F2D9684D0, -57⟩, ⟨0x1999999999999A, -58⟩, ⟨0x1455B5A30B035D, -58⟩,
    ⟨0x10270AC3F8A9FA, -58⟩, ⟨0x19A9294B8536EA, -59⟩, ⟨0x146211FF90EA29, -59⟩, Sample.zero]

/-- The parameters with the NTSC column of rule R463 and every other recommended value of rules R7 and R507;
PAUSE_SAMPLE_LINE is `none` and samples have 53-bit significands (DESIGN CHOICE, logs 6 and 9). -/
def Config.ntsc : Config where
  intDataByte := 0xFF#8
  edUndefined := .nop
  pauseSampleLine := none
  video := .ntsc
  cyclesPerLine := 228
  linesPerFrame := 262
  activeHeight := 192
  frameIntLine := 193
  vJumpFrom := 0xDA
  vJumpTo := 0xD5
  psgCyclesPerSample := 16
  psgDecrement := 1
  psgMinPeriod := 2
  psgTap0 := 0
  psgTap1 := 1
  psgFloatBits := 53
  psgVolumeTable := Config.recommendedVolumes
  psgReadySamples := 1024
  psgOutLength := 4096

/-- The parameters with the PAL column of rule R463. -/
def Config.pal : Config :=
  { Config.ntsc with video := .pal, linesPerFrame := 313, vJumpFrom := 0xF2, vJumpTo := 0xBA }

/-- The free byte of draw number `k`: the flags and status bits the spec leaves "unspecified (any value)", drawn at each
execution (rules R286, R349, R457; U1, U2, U3). It has no body, so nothing can be proved of its value (log 7). -/
opaque Config.freeByte : Nat → Byte

/-- HCOUNT of rule R459: the byte an H-counter read returns, a function of the horizontal position only, otherwise open
(decision D26). It has no body (log 8). -/
opaque Config.hCount : Nat → Byte

/-- Which of its two neighbours in the format an inexact sum `n * 2 ^ e` is rounded to: true for the one away from zero.
The spec names no rounding, so it has no body (log 9). -/
opaque Config.roundsAway : Int → Int → Bool

end Sys2Proof
end

