-- ==== Sys2Proof/Machine/State.lean ====
section
/-! DEFINITION. The state of the machine as plain data: the processor (10_state.md), the bus (20_memory.md rule R61), the
VDP and the PSG (60_exceptions.md rules R450, R500), the parameters of the run, and the model's own outputs; the reasons
a step can stop; and the machine right after reset (70_reset_and_hazards.md rule R521). -/

namespace Sys2Proof.Machine

/-- The reasons the machine stops with a fault. There is none: "There are no synchronous exceptions" (60_exceptions.md
rule R414), and no behaviour of this machine has the treatment `fault` or `stuck` (93_implementation_defined.md
section 1). -/
inductive Fault
  deriving DecidableEq, Repr

/-- The reasons the model refuses. -/
inductive Refusal
  /-- Raised by an arm of `exec` whose instruction has no meaning yet. Safe: the run ends where the hardware goes on. -/
  | notModelled (mnemonic : String)
  /-- Raised by `construct` for an image whose stripped length is 0 or no multiple of 16384 (20_memory.md rule R70).
  Safe: the spec says the machine does not exist for such an image. No step raises it. -/
  | cartridgeRejected
  deriving DecidableEq, Repr

/-- What a step, or an instruction's effect, answers. The states are those of `State` below. -/
abbrev Result (σ : Type) := Host.Outcome σ Fault Refusal

/-- A store of bytes by number: addresses strictly rising, no entry equal to the byte an unlisted address reads as
(`Memory.wf` in Machine/Memory.lean). -/
abbrev Memory := List Host.Cell

/-- The interrupt mode IM (10_state.md rule R31). -/
inductive IntMode
  | im0
  | im1
  | im2
  deriving DecidableEq, Repr

/-- One register set: A, F, B, C, D, E, H, L (rule R20); the shadow set is a second one (rule R21). `f` is the packed
flag byte S Z Y H X PV N C (rule R24). -/
structure RegSet where
  a : Byte
  f : Byte
  b : Byte
  c : Byte
  d : Byte
  e : Byte
  h : Byte
  l : Byte
  deriving DecidableEq, Repr

/-- The state owned by the bus (20_memory.md rule R61). -/
structure Bus where
  /-- ROM, by offset in the stripped image. -/
  rom : Memory
  /-- PAGE_COUNT: the number of 16384-byte pages of `rom`. -/
  pageCount : Nat
  /-- CARTRAM: byte `o` of page `p` stands at `p * 16384 + o`. -/
  cartRam : Memory
  /-- SYSRAM. -/
  sysRam : Memory
  /-- PAGE[0]. -/
  page0 : Byte
  /-- PAGE[1]. -/
  page1 : Byte
  /-- PAGE[2]. -/
  page2 : Byte
  /-- CTRL, the control byte at 0xFFFC. -/
  ctrl : Byte
  /-- LATCH, by port. -/
  latch : Memory
  deriving DecidableEq, Repr

/-- One pixel of FB (rule R470). -/
structure Rgba where
  red : Byte
  green : Byte
  blue : Byte
  alpha : Byte
  deriving DecidableEq, Repr

/-- FB: lines of pixels by number, rising, none of them equal to what an unlisted line shows (`blankLine` in
Machine/Render.lean). -/
abbrev FrameBuffer := List (Nat × List Rgba)

/-- The VDP (rule R450). -/
structure Vdp where
  /-- VRAM. -/
  vram : Memory
  /-- CRAM. -/
  cram : Vector (BitVec 6) 32
  /-- REG. -/
  reg : Vector Byte 11
  /-- ADDR. -/
  addr : BitVec 14
  /-- CODE. -/
  code : BitVec 2
  /-- SECOND. -/
  second : Bool
  /-- READBUF. -/
  readBuf : Byte
  /-- HC. -/
  hc : Nat
  /-- LINE. -/
  line : Nat
  /-- LINE_CTR. -/
  lineCtr : Byte
  /-- FRAME_PENDING. -/
  framePending : Bool
  /-- LINE_PENDING. -/
  linePending : Bool
  /-- SPR_OVF. -/
  sprOvf : Bool
  /-- SPR_COL. -/
  sprCol : Bool
  /-- FB. -/
  fb : FrameBuffer
  deriving DecidableEq, Repr

/-- An output polarity of the PSG: +1 or -1 (rule R500). -/
inductive Polarity
  | plus
  | minus
  deriving DecidableEq, Repr

/-- The PSG (rule R500). -/
structure Psg where
  /-- TONE. -/
  tone : Vector (BitVec 10) 3
  /-- NOISE. -/
  noise : BitVec 3
  /-- VOL. -/
  vol : Vector (BitVec 4) 4
  /-- CTR. -/
  ctr : Vector Int 4
  /-- POL. -/
  pol : Vector Polarity 4
  /-- LFSR. -/
  lfsr : BitVec 15
  /-- LCH. -/
  lch : BitVec 2
  /-- LTYPE: true is volume. -/
  ltype : Bool
  /-- ACC. -/
  acc : Nat
  /-- OUT, the samples written so far (log 9). -/
  out : List Sample
  /-- WR. -/
  wr : Nat
  deriving DecidableEq, Repr

/-- What the host has been told so far: the model's own record of the fire-and-forget notifications (rules R471, R510;
log 10). Nothing of the machine reads it. -/
structure Notices where
  /-- How often `frame_ready` fired. -/
  frameReady : Nat
  /-- How often `samples_ready` fired. -/
  samplesReady : Nat
  /-- Sample steps since the last `samples_ready`. -/
  sinceReady : Nat
  deriving DecidableEq, Repr

/-- The whole machine. -/
structure State where
  /-- A, F, B, C, D, E, H, L (rule R20). -/
  main : RegSet
  /-- A', F', B', C', D', E', H', L' (rule R21). -/
  shadow : RegSet
  /-- IX (rule R23). -/
  ix : Word
  /-- IY (rule R23). -/
  iy : Word
  /-- SP (rule R26). -/
  sp : Word
  /-- PC (rule R27). -/
  pc : Word
  /-- I (rule R28). -/
  i : Byte
  /-- R (rule R29). -/
  r : Byte
  /-- IFF1 (rule R30). -/
  iff1 : Bool
  /-- IFF2 (rule R30). -/
  iff2 : Bool
  /-- IM (rule R31). -/
  im : IntMode
  /-- HALTED (rule R32). -/
  halted : Bool
  /-- EI_PENDING (rule R33). -/
  eiPending : Bool
  /-- NMI_REQ (rule R34). -/
  nmiReq : Bool
  bus : Bus
  vdp : Vdp
  psg : Psg
  /-- The parameters of the run (00_scope.md rule R7); no step changes them (DESIGN CHOICE, log 5). -/
  cfg : Config
  /-- The T-state count the last Step returned (rule R410): an output of the model, read by nothing but the peripheral
  updates of the same machine step (log 10). -/
  cost : Nat
  /-- How many free bytes have been drawn (log 7). -/
  draws : Nat
  notices : Notices
  deriving DecidableEq, Repr

/-- A register set at the model's reset value (DESIGN CHOICE, log 1: the spec leaves these registers unspecified). -/
def RegSet.reset : RegSet where
  a := 0#8
  f := 0#8
  b := 0#8
  c := 0#8
  d := 0#8
  e := 0#8
  h := 0#8
  l := 0#8

/-- The bus at reset (rule R521). The cartridge is one page whose bytes are all unlisted, since no image is given here
(DESIGN CHOICE, log 4); SYSRAM and CARTRAM have nothing listed (DESIGN CHOICE, log 3). -/
def Bus.reset : Bus where
  rom := []
  pageCount := 1
  cartRam := []
  sysRam := []
  page0 := 0#8
  page1 := 1#8
  page2 := 2#8
  ctrl := 0#8
  latch := []

/-- The VDP at reset (rule R450); VRAM, CRAM and FB are unspecified there (DESIGN CHOICE, log 3: the
unlisted byte, 0, and the unlisted line). -/
def Vdp.reset : Vdp where
  vram := []
  cram := Vector.replicate 32 0#6
  reg := Vector.replicate 11 0#8
  addr := 0#14
  code := 0#2
  second := false
  readBuf := 0#8
  hc := 0
  line := 0
  lineCtr := 0#8
  framePending := false
  linePending := false
  sprOvf := false
  sprCol := false
  fb := []

/-- The PSG at reset (rule R500). -/
def Psg.reset : Psg where
  tone := Vector.replicate 3 0#10
  noise := 0#3
  vol := Vector.replicate 4 0xF#4
  ctr := Vector.replicate 4 0
  pol := Vector.replicate 4 .plus
  lfsr := 0x4000#15
  lch := 0#2
  ltype := false
  acc := 0
  out := []
  wr := 0

/-- The machine right after reset (rules R38, R521): PC at 0x0000, interrupts disabled, IM 0, RUNNING. The registers the
spec leaves unspecified have the values of log 1, the parameters are `Config.ntsc` (logs 5 and 6). -/
def State.reset : State where
  main := RegSet.reset
  shadow := RegSet.reset
  ix := 0#16
  iy := 0#16
  sp := 0#16
  pc := 0x0000#16
  i := 0x00#8
  r := 0x00#8
  iff1 := false
  iff2 := false
  im := .im0
  halted := false
  eiPending := false
  nmiReq := false
  bus := Bus.reset
  vdp := Vdp.reset
  psg := Psg.reset
  cfg := Config.ntsc
  cost := 0
  draws := 0
  notices := { frameReady := 0, samplesReady := 0, sinceReady := 0 }

end Sys2Proof.Machine
end

