-- ==== Sys2Proof/Machine/Flags.lean ====
section
/-! DEFINITION. Every computation that writes flags, as functions of values only (42_alu8.md rule R200, 43_alu16.md rule
R240, 44_rotate_shift_bit.md rule R260, 46_block.md rule R331 and the Flags lines of the instruction rules). -/

namespace Sys2Proof.Machine

/-- The eight flags, bits 7 to 0 of F (10_state.md rule R24). -/
structure Flags where
  s : Bool
  z : Bool
  y : Bool
  h : Bool
  x : Bool
  pv : Bool
  n : Bool
  c : Bool
  deriving DecidableEq, Repr

/-- The flags of the packed byte F (rule R24). -/
def Flags.ofByte (f : Byte) : Flags where
  s := f.getLsbD 7
  z := f.getLsbD 6
  y := f.getLsbD 5
  h := f.getLsbD 4
  x := f.getLsbD 3
  pv := f.getLsbD 2
  n := f.getLsbD 1
  c := f.getLsbD 0

/-- The packed byte F (rule R24). -/
def Flags.toByte (fl : Flags) : Byte :=
  BitVec.ofBool fl.s ++ BitVec.ofBool fl.z ++ BitVec.ofBool fl.y ++ BitVec.ofBool fl.h ++
    BitVec.ofBool fl.x ++ BitVec.ofBool fl.pv ++ BitVec.ofBool fl.n ++ BitVec.ofBool fl.c

/-- `parity(v)` of 00_scope.md rule R9: true when the number of 1 bits is even. -/
def parity (v : Byte) : Bool :=
  !(v.getLsbD 0 ^^ v.getLsbD 1 ^^ v.getLsbD 2 ^^ v.getLsbD 3 ^^
    v.getLsbD 4 ^^ v.getLsbD 5 ^^ v.getLsbD 6 ^^ v.getLsbD 7)

/-- F.S, F.Z, F.Y, F.X from an 8-bit result, the other flags as in `fl` (rule R200). -/
def Flags.szyx (fl : Flags) (r : Byte) : Flags :=
  { fl with s := r.getLsbD 7, z := decide (r = 0#8), y := r.getLsbD 5, x := r.getLsbD 3 }

/-- F.Y, F.X from bits 5 and 3 of `v`, the other flags as in `fl`. -/
def Flags.yx (fl : Flags) (v : Byte) : Flags :=
  { fl with y := v.getLsbD 5, x := v.getLsbD 3 }

/-! 8-bit arithmetic and logic (rule R200). -/

/-- `add8` of rule R200. -/
def add8 (a b : Byte) (cin : Bool) : Byte × Flags :=
  let s := a.toNat + b.toNat + cin.toNat
  let r := BitVec.ofNat 8 s
  (r, { s := r.getLsbD 7
        z := decide (r = 0#8)
        y := r.getLsbD 5
        h := decide ((a &&& 0x0F#8).toNat + (b &&& 0x0F#8).toNat + cin.toNat > 0x0F)
        x := r.getLsbD 3
        pv := ((a ^^^ r) &&& (b ^^^ r)).getLsbD 7
        n := false
        c := decide (s > 0xFF) })

/-- `sub8` of rule R200. -/
def sub8 (a b : Byte) (cin : Bool) : Byte × Flags :=
  let s : Int := (a.toNat : Int) - b.toNat - cin.toNat
  let r := BitVec.ofInt 8 s
  (r, { s := r.getLsbD 7
        z := decide (r = 0#8)
        y := r.getLsbD 5
        h := decide (((a &&& 0x0F#8).toNat : Int) - (b &&& 0x0F#8).toNat - cin.toNat < 0)
        x := r.getLsbD 3
        pv := ((a ^^^ b) &&& (a ^^^ r)).getLsbD 7
        n := true
        c := decide (s < 0) })

/-- `logic8` of rule R200. -/
def logic8 (r : Byte) (h : Bool) : Byte × Flags :=
  (r, { s := r.getLsbD 7
        z := decide (r = 0#8)
        y := r.getLsbD 5
        h := h
        x := r.getLsbD 3
        pv := parity r
        n := false
        c := false })

/-- `inc8` of rule R200; F.C unchanged. -/
def inc8 (v : Byte) (fl : Flags) : Byte × Flags :=
  let r := v + 1#8
  (r, { fl.szyx r with h := decide (v &&& 0x0F#8 = 0x0F#8), pv := decide (v = 0x7F#8), n := false })

/-- `dec8` of rule R200; F.C unchanged. -/
def dec8 (v : Byte) (fl : Flags) : Byte × Flags :=
  let r := v - 1#8
  (r, { fl.szyx r with h := decide (v &&& 0x0F#8 = 0x00#8), pv := decide (v = 0x80#8), n := true })

/-- The eight accumulator operations on A, the operand `s` and the old carry: the new A and the flags (rules R202 to
R209). `CP` leaves A and takes F.Y, F.X from the operand (rule R209). -/
def aluOp (op : AluOp) (a s : Byte) (carry : Bool) : Byte × Flags :=
  match op with
  | .add => add8 a s false
  | .adc => add8 a s carry
  | .sub => sub8 a s false
  | .sbc => sub8 a s carry
  | .and => logic8 (a &&& s) true
  | .xor => logic8 (a ^^^ s) false
  | .or => logic8 (a ||| s) false
  | .cp => (a, (sub8 a s false).2.yx s)

/-- `DAA` (rule R218); F.N unchanged. -/
def daa8 (a : Byte) (fl : Flags) : Byte × Flags :=
  let low : Byte := if fl.h || decide (9 < (a &&& 0x0F#8).toNat) then 0x06#8 else 0x00#8
  let high : Byte := if fl.c || decide (0x99 < a.toNat) then 0x60#8 else 0x00#8
  let corr := low ||| high
  let c := fl.c || decide (0x99 < a.toNat)
  let r := if fl.n then a - corr else a + corr
  let h :=
    if fl.n then fl.h && decide ((a &&& 0x0F#8).toNat < 6) else decide (9 < (a &&& 0x0F#8).toNat)
  (r, { fl.szyx r with h := h, pv := parity r, c := c })

/-- `CPL` (rule R219); `r` is the new A. -/
def cplFlags (fl : Flags) (r : Byte) : Flags :=
  { fl.yx r with h := true, n := true }

/-- `SCF` (rule R221). -/
def scfFlags (fl : Flags) (a : Byte) : Flags :=
  { fl.yx a with c := true, h := false, n := false }

/-- `CCF` (rule R222): F.H takes the old carry. -/
def ccfFlags (fl : Flags) (a : Byte) : Flags :=
  { fl.yx a with h := fl.c, c := !fl.c, n := false }

/-- `LD A,I` and `LD A,R` (rule R154); `v` is the value loaded. -/
def ldAirFlags (fl : Flags) (v : Byte) (iff2 : Bool) : Flags :=
  { fl.szyx v with h := false, pv := iff2, n := false }

/-! 16-bit arithmetic (rule R240). -/

/-- `add16` of rule R240; F.S, F.Z, F.PV unchanged. -/
def add16 (a b : Word) (fl : Flags) : Word × Flags :=
  let s := a.toNat + b.toNat
  let r := BitVec.ofNat 16 s
  (r, { fl with
        h := decide ((a &&& 0x0FFF#16).toNat + (b &&& 0x0FFF#16).toNat > 0x0FFF)
        n := false
        c := decide (s > 0xFFFF)
        y := r.getLsbD 13
        x := r.getLsbD 11 })

/-- `adc16` of rule R240. -/
def adc16 (a b : Word) (cin : Bool) : Word × Flags :=
  let s := a.toNat + b.toNat + cin.toNat
  let r := BitVec.ofNat 16 s
  (r, { s := r.getLsbD 15
        z := decide (r = 0#16)
        y := r.getLsbD 13
        h := decide ((a &&& 0x0FFF#16).toNat + (b &&& 0x0FFF#16).toNat + cin.toNat > 0x0FFF)
        x := r.getLsbD 11
        pv := ((a ^^^ r) &&& (b ^^^ r)).getLsbD 15
        n := false
        c := decide (s > 0xFFFF) })

/-- `sbc16` of rule R240. -/
def sbc16 (a b : Word) (cin : Bool) : Word × Flags :=
  let s : Int := (a.toNat : Int) - b.toNat - cin.toNat
  let r := BitVec.ofInt 16 s
  (r, { s := r.getLsbD 15
        z := decide (r = 0#16)
        y := r.getLsbD 13
        h := decide (((a &&& 0x0FFF#16).toNat : Int) - (b &&& 0x0FFF#16).toNat - cin.toNat < 0)
        x := r.getLsbD 11
        pv := ((a ^^^ b) &&& (a ^^^ r)).getLsbD 15
        n := true
        c := decide (s < 0) })

/-! Rotates, shifts and bits (rules R260 to R287). -/

/-- `rot[y]` of rule R260: the result and the carry out. -/
def rotate (op : Rot) (v : Byte) (carry : Bool) : Byte × Bool :=
  let left (b0 : Bool) : Byte := v.extractLsb' 0 7 ++ BitVec.ofBool b0
  let right (b7 : Bool) : Byte := BitVec.ofBool b7 ++ v.extractLsb' 1 7
  match op with
  | .rlc => (left (v.getLsbD 7), v.getLsbD 7)
  | .rrc => (right (v.getLsbD 0), v.getLsbD 0)
  | .rl => (left carry, v.getLsbD 7)
  | .rr => (right carry, v.getLsbD 0)
  | .sla => (left false, v.getLsbD 7)
  | .sra => (right (v.getLsbD 7), v.getLsbD 0)
  | .sll => (left true, v.getLsbD 7)
  | .srl => (right false, v.getLsbD 0)

/-- `rotflags` of rule R260. -/
def rotFlags (r : Byte) (co : Bool) : Flags where
  s := r.getLsbD 7
  z := decide (r = 0#8)
  y := r.getLsbD 5
  h := false
  x := r.getLsbD 3
  pv := parity r
  n := false
  c := co

/-- The flags of the accumulator rotates (rule R261); F.S, F.Z, F.PV unchanged. -/
def rotAFlags (fl : Flags) (r : Byte) (co : Bool) : Flags :=
  { fl.yx r with c := co, h := false, n := false }

/-- The flags of `RLD` and `RRD` from the new A (rule R274); F.C unchanged. -/
def digitFlags (fl : Flags) (a : Byte) : Flags :=
  { fl.szyx a with h := false, pv := parity a, n := false }

/-- The flags of `BIT b` on the byte `v`, with F.Y and F.X from bits 5 and 3 of `w` (rules R280, R286, R287); F.C
unchanged. -/
def bitFlags (fl : Flags) (b : BitVec 3) (v w : Byte) : Flags :=
  let t := v.getLsbD b.toNat
  { fl.yx w with z := !t, pv := !t, s := decide (b = 7#3) && t, h := true, n := false }

/-- The byte with the one bit `b` set: `1 << b` (rules R288, R291). -/
def bitMask (b : BitVec 3) : Byte := 1#8 <<< b.toNat

/-! Block and I/O instructions (rules R331, R349, R361). -/

/-- `ldflags` of rule R331; `bc` is the decremented counter. F.Y takes bit 1, not bit 5. -/
def ldFlags (fl : Flags) (a v : Byte) (bc : Word) : Flags :=
  let n := v + a
  { fl with h := false, n := false, pv := decide (bc ≠ 0#16), y := n.getLsbD 1, x := n.getLsbD 3 }

/-- `cpflags` of rule R331; `bc` is the decremented counter. -/
def cpFlags (fl : Flags) (a v : Byte) (bc : Word) : Flags :=
  let r := a - v
  let h := decide (((a &&& 0x0F#8).toNat : Int) - (v &&& 0x0F#8).toNat < 0)
  let n := r - (BitVec.ofBool h).setWidth 8
  { s := r.getLsbD 7
    z := decide (r = 0#8)
    y := n.getLsbD 1
    h := h
    x := n.getLsbD 3
    pv := decide (bc ≠ 0#16)
    n := true
    c := fl.c }

/-- `IN r,(C)` and `IN (C)` (rule R361); F.C unchanged. -/
def inFlags (fl : Flags) (v : Byte) : Flags :=
  { fl.szyx v with h := false, pv := parity v, n := false }

/-- The block I/O instructions (rule R349): F.Z from the decremented B, every other flag from the free byte. -/
def blockIoFlags (free b : Byte) : Flags :=
  { Flags.ofByte free with z := decide (b = 0#8) }

end Sys2Proof.Machine
end

