-- ==== Sys2Proof/Machine/Operands.lean ====
section
/-! DEFINITION. The operand forms: registers, pairs, index registers and their halves, conditions, effective addresses
(00_scope.md rules R10, R15, 10_state.md rules R22, R23, 30_encoding.md rule R103). -/

namespace Sys2Proof.Machine

/-! 8-bit registers. -/

/-- The flags of F. -/
def State.flags (s : State) : Flags := Flags.ofByte s.main.f

/-- Replace A. -/
def State.setA (s : State) (v : Byte) : State := { s with main := { s.main with a := v } }

/-- Replace F by its flags. -/
def State.setFlags (s : State) (fl : Flags) : State := { s with main := { s.main with f := fl.toByte } }

/-- `r[i]` of a register set (rule R15). -/
def RegSet.get (m : RegSet) : Reg8 → Byte
  | .b => m.b
  | .c => m.c
  | .d => m.d
  | .e => m.e
  | .h => m.h
  | .l => m.l
  | .a => m.a

/-- `r[i] <- v` in a register set. -/
def RegSet.set (m : RegSet) : Reg8 → Byte → RegSet
  | .b, v => { m with b := v }
  | .c, v => { m with c := v }
  | .d, v => { m with d := v }
  | .e, v => { m with e := v }
  | .h, v => { m with h := v }
  | .l, v => { m with l := v }
  | .a, v => { m with a := v }

/-- Read `r[i]`. -/
def State.reg (s : State) (r : Reg8) : Byte := s.main.get r

/-- `r[i] <- v`. -/
def State.setReg (s : State) (r : Reg8) (v : Byte) : State := { s with main := s.main.set r v }

/-! Pairs (rule R22). -/

/-- `BC = {B, C}`. -/
def RegSet.bc (m : RegSet) : Word := mkWord m.b m.c

/-- `DE = {D, E}`. -/
def RegSet.de (m : RegSet) : Word := mkWord m.d m.e

/-- `HL = {H, L}`. -/
def RegSet.hl (m : RegSet) : Word := mkWord m.h m.l

/-- `AF = {A, F}`. -/
def RegSet.af (m : RegSet) : Word := mkWord m.a m.f

/-- `BC <- v`. -/
def State.setBC (s : State) (v : Word) : State :=
  { s with main := { s.main with b := hiByte v, c := loByte v } }

/-- `DE <- v`. -/
def State.setDE (s : State) (v : Word) : State :=
  { s with main := { s.main with d := hiByte v, e := loByte v } }

/-- `HL <- v`. -/
def State.setHL (s : State) (v : Word) : State :=
  { s with main := { s.main with h := hiByte v, l := loByte v } }

/-- `AF <- v`: all eight bits of F. -/
def State.setAF (s : State) (v : Word) : State :=
  { s with main := { s.main with a := hiByte v, f := loByte v } }

/-- Read `rp[i]`. -/
def State.pair (s : State) : Reg16 → Word
  | .bc => s.main.bc
  | .de => s.main.de
  | .hl => s.main.hl
  | .sp => s.sp

/-- `rp[i] <- v`. -/
def State.setPair (s : State) : Reg16 → Word → State
  | .bc, v => s.setBC v
  | .de, v => s.setDE v
  | .hl, v => s.setHL v
  | .sp, v => { s with sp := v }

/-- Read `rp2[i]`. -/
def State.stk (s : State) : Stk16 → Word
  | .bc => s.main.bc
  | .de => s.main.de
  | .hl => s.main.hl
  | .af => s.main.af

/-- `rp2[i] <- v`. -/
def State.setStk (s : State) : Stk16 → Word → State
  | .bc, v => s.setBC v
  | .de, v => s.setDE v
  | .hl, v => s.setHL v
  | .af, v => s.setAF v

/-! Index registers (10_state.md rule R23). -/

/-- Read `XY`. -/
def State.index (s : State) : Idx → Word
  | .ix => s.ix
  | .iy => s.iy

/-- `XY <- v`. -/
def State.setIndex (s : State) : Idx → Word → State
  | .ix, v => { s with ix := v }
  | .iy, v => { s with iy := v }

/-- Read `XYH` or `XYL`. -/
def State.half (s : State) (x : Idx) : Half → Byte
  | .high => hiByte (s.index x)
  | .low => loByte (s.index x)

/-- `XYH <- v` or `XYL <- v`; the other half is unchanged. -/
def State.setHalf (s : State) (x : Idx) : Half → Byte → State
  | .high, v => s.setIndex x (mkWord v (loByte (s.index x)))
  | .low, v => s.setIndex x (mkWord (hiByte (s.index x)) v)

/-- Read `p[i]` or `q[i]` (rule R158). -/
def State.xreg (s : State) (x : Idx) : XReg8 → Byte
  | .b => s.main.b
  | .c => s.main.c
  | .d => s.main.d
  | .e => s.main.e
  | .xh => s.half x .high
  | .xl => s.half x .low
  | .a => s.main.a

/-- `p[i] <- v` or `q[i] <- v` (rule R158). -/
def State.setXreg (s : State) (x : Idx) : XReg8 → Byte → State
  | .b, v => s.setReg .b v
  | .c, v => s.setReg .c v
  | .d, v => s.setReg .d v
  | .e, v => s.setReg .e v
  | .xh, v => s.setHalf x .high v
  | .xl, v => s.setHalf x .low v
  | .a, v => s.setReg .a v

/-- The operand `rp'[i]` of `ADD XY,rp'` where `rp'[2] = XY` (rules R112, R244, R245). -/
def State.xpair (s : State) (x : Idx) : Reg16 → Word
  | .bc => s.main.bc
  | .de => s.main.de
  | .hl => s.index x
  | .sp => s.sp

/-- The effective address `(XY + sext8(d)) mod 65536` (rule R103). -/
def State.indexed (s : State) (x : Idx) (d : Byte) : Word := s.index x + sext8 d

/-- The relative target `(PC + sext8(e)) mod 65536`; PC holds the address of the next instruction (rule R303). -/
def State.relative (s : State) (e : Byte) : Word := s.pc + sext8 e

/-- The condition `cc[i]` on F (rule R315). -/
def Flags.holds (fl : Flags) : Cond → Bool
  | .nz => !fl.z
  | .z => fl.z
  | .nc => !fl.c
  | .c => fl.c
  | .po => !fl.pv
  | .pe => fl.pv
  | .p => !fl.s
  | .m => fl.s

end Sys2Proof.Machine
end

