-- ==== Sys2Proof/Machine/Memory.lean ====
section
/-! DEFINITION. The stores of bytes (ROM, CARTRAM, SYSRAM, LATCH, VRAM) as lists in one canonical form: what an unlisted
address reads as, reading, writing, and the form itself. -/

namespace Sys2Proof.Machine

/-- The stores of bytes the spec gives the machine (20_memory.md rule R61, 60_exceptions.md rule R450). -/
inductive Store
  | rom
  | cartRam
  | sysRam
  | latch
  | vram
  deriving DecidableEq, Repr

/-- What an address that a store does not list reads as. LATCH: the reset value 0xFF of rule R61. ROM: the byte that
95_test_vectors.md takes for every byte of an image it does not list (DESIGN CHOICE, log 4). CARTRAM, SYSRAM and VRAM:
unspecified at reset (rules R61, R450); 0x00 is a DESIGN CHOICE (log 3). -/
def unlisted : Store → Byte
  | .rom => 0x00#8
  | .cartRam => 0x00#8
  | .sysRam => 0x00#8
  | .latch => 0xFF#8
  | .vram => 0x00#8

/-- The byte at address `a` of a store. -/
def Memory.read (st : Store) : Memory → Nat → Byte
  | [], _ => unlisted st
  | (k, v) :: m, a => if k = a then v else Memory.read st m a

/-- The store without what it lists at `a`. -/
def Memory.erase (a : Nat) : Memory → Memory
  | [] => []
  | (k, w) :: m => if k = a then Memory.erase a m else (k, w) :: Memory.erase a m

/-- The store with `(a, v)` in front of the first larger address. -/
def Memory.insert (a : Nat) (v : Byte) : Memory → Memory
  | [] => [(a, v)]
  | (k, w) :: m => if a < k then (a, v) :: (k, w) :: m else (k, w) :: Memory.insert a v m

/-- The store with `v` at address `a`, in canonical form: a byte equal to the unlisted one is not listed. -/
def Memory.write (st : Store) (m : Memory) (a : Nat) (v : Byte) : Memory :=
  if v = unlisted st then Memory.erase a m else Memory.insert a v (Memory.erase a m)

/-- Addresses strictly rising from `lo`, all below `bound`, no byte equal to the unlisted one. -/
def Memory.wfFrom (st : Store) (bound : Nat) : Nat → Memory → Bool
  | _, [] => true
  | lo, (k, v) :: m =>
    decide (lo ≤ k) && decide (k < bound) && decide (v ≠ unlisted st) && Memory.wfFrom st bound (k + 1) m

/-- The canonical form of a store of `bound` bytes. -/
def Memory.wf (st : Store) (bound : Nat) (m : Memory) : Bool := Memory.wfFrom st bound 0 m

/-- The store that holds `bytes` from address `a` on and nothing else. -/
def Memory.ofBytes (st : Store) : Nat → List Byte → Memory
  | _, [] => []
  | a, v :: vs => if v = unlisted st then Memory.ofBytes st (a + 1) vs else (a, v) :: Memory.ofBytes st (a + 1) vs

end Sys2Proof.Machine
end

