-- ==== Sys2Proof/Machine/Sample.lean ====
section
/-! DEFINITION. The floating-point arithmetic of PSG samples (60_exceptions.md rule R509): the product with a polarity or
a bit is exact, a sum is rounded to the format; which neighbour an inexact sum takes is free (log 9). -/

namespace Sys2Proof

/-- The number in units of `2 ^ e`, for `e` no larger than its exponent. -/
def Sample.inUnits (x : Sample) (e : Int) : Int := x.significand * 2 ^ (x.exponent - e).toNat

/-- The product with 1, -1 or 0. -/
def Sample.times (x : Sample) (k : Int) : Sample := { x with significand := k * x.significand }

/-- The magnitude `q * 2 ^ e`, `q` positive, as a `bits`-bit significand with its top bit set and an exponent: exact when
`q` is short enough, otherwise the neighbour away from zero or the one towards it. -/
def roundMagnitude (bits : Nat) (away : Bool) (q : Nat) (e : Int) : Nat × Int :=
  let len := q.log2 + 1
  if len ≤ bits then (q * 2 ^ (bits - len), e - (bits - len : Nat))
  else
    let drop := len - bits
    let m := q / 2 ^ drop
    if decide (q % 2 ^ drop ≠ 0) && away then
      if m + 1 = 2 ^ bits then (2 ^ (bits - 1), e + drop + 1) else (m + 1, e + drop)
    else (m, e + drop)

/-- `n * 2 ^ e` in a format whose significands have `bits` bits. -/
def Sample.round (bits : Nat) (n e : Int) : Sample :=
  if n = 0 then Sample.zero
  else
    let r := roundMagnitude bits (Config.roundsAway n e) n.natAbs e
    { significand := n.sign * r.1, exponent := r.2 }

/-- The sum in the format of `c`. -/
def Sample.add (c : Config) (x y : Sample) : Sample :=
  let e := min x.exponent y.exponent
  Sample.round c.psgFloatBits (x.inUnits e + y.inUnits e) e

end Sys2Proof
end

