-- ==== Sys2Proof/Machine/Psg.lean ====
section
/-! DEFINITION. The PSG: its write port and its sample clock (60_exceptions.md rules R502, R505 to R509). -/

namespace Sys2Proof.Machine

/-- Write a nibble or a data byte to the latched target (rule R502). `low4` says the byte is a latch byte, which carries
the low four bits of a tone period; a data byte carries the high six (conflict C5). -/
def Psg.toTarget (p : Psg) (v : Byte) (low4 : Bool) : Psg :=
  let ch := p.lch.toNat
  if p.ltype then { p with vol := p.vol.setIfInBounds ch (v.extractLsb' 0 4) }
  else if ch < 3 then
    let old := p.tone.getD ch 0#10
    let new : BitVec 10 :=
      if low4 then old.extractLsb' 4 6 ++ v.extractLsb' 0 4
      else v.extractLsb' 0 6 ++ old.extractLsb' 0 4
    { p with tone := p.tone.setIfInBounds ch new }
  else { p with noise := v.extractLsb' 0 3, lfsr := 0x4000#15 }

/-- `PsgWrite` (rule R502). -/
def Psg.write (p : Psg) (v : Byte) : Psg :=
  if v.getLsbD 7 then { p with lch := v.extractLsb' 5 2, ltype := v.getLsbD 4 }.toTarget v true
  else p.toTarget v false

/-- The other polarity. -/
def Polarity.flip : Polarity → Polarity
  | .plus => .minus
  | .minus => .plus

/-- The polarity as a factor of a sample (rule R509). -/
def Polarity.sign : Polarity → Int
  | .plus => 1
  | .minus => -1

/-- One tone channel of a sample step (rule R506). -/
def Psg.toneStep (c : Config) (p : Psg) (ch : Nat) : Psg :=
  let period := (p.tone.getD ch 0#10).toNat
  if period < c.psgMinPeriod then { p with pol := p.pol.setIfInBounds ch .plus }
  else
    let k := p.ctr.getD ch 0 - c.psgDecrement
    if k ≤ 0 then
      { p with
        ctr := p.ctr.setIfInBounds ch (k + period)
        pol := p.pol.setIfInBounds ch (p.pol.getD ch .plus).flip }
    else { p with ctr := p.ctr.setIfInBounds ch k }

/-- The noise period (rule R508). -/
def Psg.noisePeriod (p : Psg) : Nat :=
  match (p.noise.extractLsb' 0 2).toNat with
  | 0 => 0x10
  | 1 => 0x20
  | 2 => 0x40
  | _ => p.tone[2].toNat

/-- The feedback bit of the noise register (rule R508). -/
def Psg.feedback (c : Config) (p : Psg) : Bool :=
  if p.noise.getLsbD 2 then p.lfsr.getLsbD c.psgTap0 ^^ p.lfsr.getLsbD c.psgTap1 else p.lfsr.getLsbD 0

/-- The noise register after one shift (rule R508): all ones if it ever reaches zero. -/
def Psg.shifted (c : Config) (p : Psg) : BitVec 15 :=
  let l : BitVec 15 := BitVec.ofBool (p.feedback c) ++ p.lfsr.extractLsb' 1 14
  if l = 0#15 then 0x7FFF#15 else l

/-- The noise channel of a sample step (rule R508). -/
def Psg.noiseStep (c : Config) (p : Psg) : Psg :=
  let k := p.ctr[3] - c.psgDecrement
  if k ≤ 0 then
    { p with
      ctr := p.ctr.set 3 (k + p.noisePeriod)
      pol := p.pol.set 3 p.pol[3].flip
      lfsr := p.shifted c }
  else { p with ctr := p.ctr.set 3 k }

/-- The mixed sample (rule R509), summed in the order the rule writes. -/
def Psg.mix (c : Config) (p : Psg) : Sample :=
  let volume (ch : Nat) : Sample := c.psgVolumeTable.getD (p.vol.getD ch 0#4).toNat Sample.zero
  let tone01 := ((volume 0).times p.pol[0].sign).add c ((volume 1).times p.pol[1].sign)
  (tone01.add c ((volume 2).times p.pol[2].sign)).add c ((volume 3).times (p.lfsr.getLsbD 0).toNat)

/-- `OUT[WR] <- s; WR <- (WR + 1) mod len(OUT)` (rule R509); `out` holds the entries written so far. -/
def Psg.emit (c : Config) (p : Psg) (s : Sample) : Psg :=
  { p with
    out := if p.wr < p.out.length then p.out.set p.wr s else p.out ++ [s]
    wr := (p.wr + 1) % c.psgOutLength }

/-- `SampleStep` (rules R506, R508, R509). -/
def Psg.sampleStep (c : Config) (p : Psg) : Psg :=
  let p' := (((p.toneStep c 0).toneStep c 1).toneStep c 2).noiseStep c
  p'.emit c (p'.mix c)

/-- `n` sample steps. -/
def Psg.sampleSteps (c : Config) : Nat → Psg → Psg
  | 0, p => p
  | n + 1, p => Psg.sampleSteps c n (p.sampleStep c)

/-- How many sample steps `PsgUpdate(t)` runs (rule R505). -/
def Psg.samplesDue (c : Config) (t : Nat) (p : Psg) : Nat :=
  if c.psgCyclesPerSample = 0 then 0 else (p.acc + t) / c.psgCyclesPerSample

/-- `PsgUpdate(t)` (rule R505): the loop runs `samplesDue` times and leaves the remainder in ACC (DEDUCED,
log 18). -/
def Psg.update (c : Config) (t : Nat) (p : Psg) : Psg :=
  if c.psgCyclesPerSample = 0 then { p with acc := p.acc + t }
  else Psg.sampleSteps c (p.samplesDue c t) { p with acc := (p.acc + t) % c.psgCyclesPerSample }

end Sys2Proof.Machine
end

