-- ==== Sys2Proof/Machine/Render.lean ====
section
/-! DEFINITION. The VDP's rendering of one scanline: sprites, background, priority, colours (60_exceptions.md rules R467 to
R470). It reads VRAM, CRAM and REG and produces a line of FB and the two sprite status bits. -/

namespace Sys2Proof.Machine

/-- The byte of VRAM at `a`. -/
def Vdp.vramAt (v : Vdp) (a : Nat) : Byte := Memory.read .vram v.vram a

/-- DISPLAY_EN, `REG[1][6]` (rule R462). -/
def Vdp.displayEnabled (v : Vdp) : Bool := v.reg[1].getLsbD 6

/-- The 4-bit colour of one pattern pixel: bit `bit` of the four bit-plane bytes at `pa` (rules R467, R468). -/
def Vdp.patternPixel (v : Vdp) (pa bit : Nat) : BitVec 4 :=
  BitVec.ofBool ((v.vramAt (pa + 3)).getLsbD bit) ++ BitVec.ofBool ((v.vramAt (pa + 2)).getLsbD bit) ++
    BitVec.ofBool ((v.vramAt (pa + 1)).getLsbD bit) ++ BitVec.ofBool ((v.vramAt pa).getLsbD bit)

/-- Entry `k` of CRAM. -/
def Vdp.colour (v : Vdp) (k : Nat) : BitVec 6 := v.cram.getD k 0#6

/-- The RGBA expansion of a CRAM value (rule R470). -/
def Rgba.ofColour (k : BitVec 6) : Rgba where
  red := BitVec.ofNat 8 ((k.extractLsb' 0 2).toNat * 85)
  green := BitVec.ofNat 8 ((k.extractLsb' 2 2).toNat * 85)
  blue := BitVec.ofNat 8 ((k.extractLsb' 4 2).toNat * 85)
  alpha := 255#8

/-! Sprites (rule R467). -/

/-- What the sprite pass of a line has produced: the pixels of SPRPIX that are not "none", by screen column, and the two
status bits. -/
structure SpriteLine where
  pixels : List (Nat × BitVec 4)
  overflow : Bool
  collision : Bool
  deriving DecidableEq, Repr

/-- Draw colour `c` at screen column `sx`: off the screen nothing; on an earlier sprite's pixel a collision, and that
pixel stays. -/
def SpriteLine.plot (sl : SpriteLine) (c : BitVec 4) (sx : Int) : SpriteLine :=
  if 0 ≤ sx ∧ sx < 256 then
    match sl.pixels.lookup sx.toNat with
    | some _ => { sl with collision := true }
    | none => { sl with pixels := (sx.toNat, c) :: sl.pixels }
  else sl

/-- `SPRITE_ZOOM`, `REG[1][0]`. -/
def Vdp.spriteZoom (v : Vdp) : Bool := v.reg[1].getLsbD 0

/-- `SPRITE_TALL`, `REG[1][1]`. -/
def Vdp.spriteTall (v : Vdp) : Bool := v.reg[1].getLsbD 1

/-- `hh`: the height of a sprite on the screen. -/
def Vdp.spriteHeight (v : Vdp) : Nat :=
  let h := if v.spriteTall then 16 else 8
  if v.spriteZoom then h * 2 else h

/-- The sprite attribute table, `REG[5][6:1] * 0x100`. -/
def Vdp.spriteTable (v : Vdp) : Nat := (v.reg[5].extractLsb' 1 6).toNat * 0x100

/-- One row of eight pattern pixels of a sprite, leftmost column `x`. -/
def Vdp.drawRow (v : Vdp) (pa : Nat) (x : Int) : List Nat → SpriteLine → SpriteLine
  | [], sl => sl
  | px :: rest, sl =>
    let c := v.patternPixel pa (7 - px)
    let sl' :=
      if c = 0#4 then sl
      else if v.spriteZoom then (sl.plot c (x + 2 * px)).plot c (x + 2 * px + 1)
      else sl.plot c (x + px)
    v.drawRow pa x rest sl'

/-- Sprite `i`, whose top line is `top`, on line `ln`. -/
def Vdp.drawSprite (v : Vdp) (ln : Nat) (i : Nat) (top : Int) (sl : SpriteLine) : SpriteLine :=
  let sat := v.spriteTable
  let x0 : Int := (v.vramAt (sat + 0x80 + 2 * i)).toNat
  let x := if v.reg[0].getLsbD 3 then x0 - 8 else x0
  let n0 := (v.vramAt (sat + 0x80 + 2 * i + 1)).toNat
  let n1 := if v.reg[6].getLsbD 2 then n0 + 256 else n0
  let n := if v.spriteTall then n1 / 2 * 2 else n1
  let dy := ((ln : Int) - top).toNat
  let row := if v.spriteZoom then dy / 2 else dy
  v.drawRow (n * 32 + row * 4) x (List.range 8) sl

/-- The sprites of line `ln` in table order: the list ends at the marker 0xD0; the ninth sprite on the line sets the
overflow and ends the line's sprites. -/
def Vdp.spritePass (v : Vdp) (ln : Nat) : List Nat → Nat → SpriteLine → SpriteLine
  | [], _, sl => sl
  | i :: rest, count, sl =>
    let y := v.vramAt (v.spriteTable + i)
    if y = 0xD0#8 then sl
    else
      let top0 : Int := y.toNat + 1
      let top := if top0 > 240 then top0 - 256 else top0
      if top ≤ ln ∧ (ln : Int) < top + v.spriteHeight then
        if count + 1 > 8 then { sl with overflow := true }
        else v.spritePass ln rest (count + 1) (v.drawSprite ln i top sl)
      else v.spritePass ln rest count sl

/-- All 64 sprites on line `ln`. -/
def Vdp.sprites (v : Vdp) (ln : Nat) : SpriteLine :=
  v.spritePass ln (List.range 64) 0 { pixels := [], overflow := false, collision := false }

/-! Background (rule R468). -/

/-- A background pixel: its pattern colour, palette half and priority. -/
structure TilePixel where
  c : BitVec 4
  pal : Bool
  prio : Bool
  deriving DecidableEq, Repr

/-- `BGPIX[sx]` of line `ln`, `none` in the strip that fine scroll uncovers. Rule R468 writes column by column; column
`col`, pixel `px` stands at `sx = col * 8 + (hs & 7) + px`, which this definition solves for `col` and `px` (DEDUCED, log 11). -/
def Vdp.tilePixel (v : Vdp) (ln sx : Nat) : Option TilePixel :=
  let nt := (v.reg[2].extractLsb' 1 3).toNat * 0x800
  let hs := if v.reg[0].getLsbD 6 && decide (ln < 16) then 0 else v.reg[8].toNat
  let fine := hs % 8
  if sx < fine then none
  else
    let col := (sx - fine) / 8
    let px := (sx - fine) % 8
    let vs := if v.reg[0].getLsbD 7 && decide (24 ≤ col) then 0 else v.reg[9].toNat
    let yy := (ln + vs) % 224
    let trow := yy / 8
    let fy := yy % 8
    let tcol := (col + 32 - hs / 8) % 32
    let e : Word :=
      v.vramAt (nt + (trow * 32 + tcol) * 2 + 1) ++ v.vramAt (nt + (trow * 32 + tcol) * 2)
    let pat := (e.extractLsb' 0 9).toNat
    let pa := pat * 32 + (if e.getLsbD 10 then 7 - fy else fy) * 4
    let bit := if e.getLsbD 9 then px else 7 - px
    some { c := v.patternPixel pa bit, pal := e.getLsbD 11, prio := e.getLsbD 12 }

/-- The backdrop colour, `CRAM[16 + REG[7][3:0]]`. -/
def Vdp.backdrop (v : Vdp) : BitVec 6 := v.colour (16 + (v.reg[7].extractLsb' 0 4).toNat)

/-- The colour a background pixel shows: its palette's entry, colour 0 included (rule R469). -/
def Vdp.tileColour (v : Vdp) (t : TilePixel) : BitVec 6 := v.colour ((if t.pal then 16 else 0) + t.c.toNat)

/-- The colour of one pixel (rule R469): a sprite pixel unless the tile has priority and is not transparent there, else
the tile pixel, else the backdrop. -/
def Vdp.pixelColour (v : Vdp) (sl : SpriteLine) (ln sx : Nat) : BitVec 6 :=
  match sl.pixels.lookup sx, v.tilePixel ln sx with
  | some c, some t => if t.prio && decide (t.c ≠ 0#4) then v.tileColour t else v.colour (16 + c.toNat)
  | some c, none => v.colour (16 + c.toNat)
  | none, some t => v.tileColour t
  | none, none => v.backdrop

/-- What a pixel that nothing has drawn shows: unspecified at construction (rule R450), all four bytes 0 here (DESIGN
CHOICE, log 3). -/
def Rgba.blank : Rgba where
  red := 0x00#8
  green := 0x00#8
  blue := 0x00#8
  alpha := 0x00#8

/-- A line that FB does not list. -/
def blankLine : List Rgba := List.replicate 256 Rgba.blank

/-- `FB[ln]`: every line has its pixels, listed or not. -/
def FrameBuffer.line (fb : FrameBuffer) (ln : Nat) : List Rgba := (fb.lookup ln).getD blankLine

/-- `FB[ln][sx]` (rules R450, R470). -/
def Vdp.pixel (v : Vdp) (ln sx : Nat) : Rgba := (v.fb.line ln).getD sx Rgba.blank

/-- FB with line `ln` replaced. A rendered line is no `blankLine`, its pixels having alpha 255, so the form of FB is kept. -/
def FrameBuffer.setLine : FrameBuffer → Nat → List Rgba → FrameBuffer
  | [], ln, px => [(ln, px)]
  | (k, q) :: fb, ln, px =>
    if ln < k then (ln, px) :: (k, q) :: fb
    else if ln = k then (ln, px) :: fb
    else (k, q) :: FrameBuffer.setLine fb ln px

/-- `RenderLine(ln)` (rules R467 to R470): with the display disabled every pixel is the backdrop and no sprite is
processed. -/
def Vdp.renderLine (v : Vdp) (ln : Nat) : Vdp :=
  if v.displayEnabled then
    let sl := v.sprites ln
    { v with
      fb := FrameBuffer.setLine v.fb ln
        ((List.range 256).map fun sx => Rgba.ofColour (v.pixelColour sl ln sx))
      sprOvf := v.sprOvf || sl.overflow
      sprCol := v.sprCol || sl.collision }
  else
    { v with
      fb := FrameBuffer.setLine v.fb ln ((List.range 256).map fun _ => Rgba.ofColour v.backdrop) }

end Sys2Proof.Machine
end

