-- ==== Sys2Proof/Machine/Vdp.lean ====
section
/-! DEFINITION. The VDP's ports, its interrupt line, its counters and its clock (60_exceptions.md rules R452 to R466,
R471). -/

namespace Sys2Proof.Machine

/-- The VDP address register after an access; it wraps modulo 16384 (rule R450). -/
def Vdp.advance (v : Vdp) : Vdp := { v with addr := v.addr + 1#14 }

/-- Load READBUF from `VRAM[ADDR]` and advance ADDR. -/
def Vdp.prime (v : Vdp) : Vdp := { v with readBuf := v.vramAt v.addr.toNat }.advance

/-- `VdpControlWrite` (rule R452): the first byte is the low address half; the second is the high half and the code, and
performs the code's immediate effect. -/
def Vdp.controlWrite (v : Vdp) (w : Byte) : Vdp :=
  if v.second then
    let addr : BitVec 14 := w.extractLsb' 0 6 ++ v.addr.extractLsb' 0 8
    let code := w.extractLsb' 6 2
    let index := (w.extractLsb' 0 4).toNat
    let v' := { v with addr := addr, code := code, second := false }
    if code = 0#2 then v'.prime
    else if code = 2#2 && decide (index < 11) then
      { v' with reg := v'.reg.setIfInBounds index (addr.extractLsb' 0 8) }
    else v'
  else { v with addr := v.addr.extractLsb' 8 6 ++ w, second := true }

/-- `VdpDataWrite` (rule R454). -/
def Vdp.dataWrite (v : Vdp) (w : Byte) : Vdp :=
  let v' :=
    if v.code = 3#2 then
      { v with cram := v.cram.setIfInBounds (v.addr.extractLsb' 0 5).toNat (w.extractLsb' 0 6) }
    else { v with vram := Memory.write .vram v.vram v.addr.toNat w }
  { v' with second := false, readBuf := w }.advance

/-- `VdpDataRead` (rule R455): the byte buffered by the previous access. -/
def Vdp.dataRead (v : Vdp) : Byte × Vdp := (v.readBuf, { v with second := false }.prime)

/-- `VdpStatusRead` (rule R457) with `u5` the unspecified bits 4:0. -/
def Vdp.statusRead (v : Vdp) (u5 : BitVec 5) : Byte × Vdp :=
  (BitVec.ofBool v.framePending ++ BitVec.ofBool v.sprOvf ++ BitVec.ofBool v.sprCol ++ u5,
    { v with framePending := false, linePending := false, sprOvf := false, sprCol := false, second := false })

/-- `VCOUNT(LINE)` (rule R464). -/
def vCount (c : Config) (line : Nat) : Byte :=
  BitVec.ofNat 8 (if line ≤ c.vJumpFrom then line else line - (c.vJumpFrom + 1) + c.vJumpTo)

/-- `VCounter()` (rule R458). -/
def Vdp.vCounter (c : Config) (v : Vdp) : Byte := vCount c v.line

/-- The H-counter read (rule R459): an uninterpreted function of HC. -/
def Vdp.hCounter (v : Vdp) : Byte := Config.hCount v.hc

/-- `INT_LINE` (rule R461). -/
def Vdp.intLine (v : Vdp) : Bool :=
  (v.framePending && v.reg[1].getLsbD 5) || (v.linePending && v.reg[0].getLsbD 4)

/-- The line-interrupt countdown on entering line `v.line` (rule R465). -/
def Vdp.countLine (c : Config) (v : Vdp) : Vdp :=
  if v.line ≤ c.activeHeight then
    if v.lineCtr = 0#8 then { v with lineCtr := v.reg[10], linePending := true }
    else { v with lineCtr := v.lineCtr - 1#8 }
  else { v with lineCtr := v.reg[10] }

/-- The frame interrupt on entering line `v.line` (rule R466). -/
def Vdp.frameInt (c : Config) (v : Vdp) : Vdp :=
  if v.line = c.frameIntLine then { v with framePending := true } else v

/-- `EndOfLine` (rule R460) but for the notification. -/
def Vdp.endOfLine (c : Config) (v : Vdp) : Vdp :=
  let v1 := ({ v with line := (v.line + 1) % c.linesPerFrame }.countLine c).frameInt c
  if v1.line < c.activeHeight then v1.renderLine v1.line else v1

/-- Whether `EndOfLine` fires `frame_ready`, asked of the VDP after it (rules R460, R471). -/
def Vdp.frameReady (c : Config) (v : Vdp) : Bool :=
  decide (v.line = c.activeHeight + 1) && v.displayEnabled

/-- `n` line ends, and how many of them fired `frame_ready`. -/
def Vdp.endOfLines (c : Config) : Nat → Vdp → Vdp × Nat
  | 0, v => (v, 0)
  | n + 1, v =>
    let v1 := v.endOfLine c
    let (v2, k) := Vdp.endOfLines c n v1
    (v2, k + (v1.frameReady c).toNat)

/-- `VdpUpdate(t)` (rule R460), and how often `frame_ready` fired. The loop of the rule runs `(HC + t) / CYCLES_PER_LINE`
times and leaves the remainder in HC: the excess is kept (decision D38; DEDUCED, log 18). -/
def Vdp.update (c : Config) (t : Nat) (v : Vdp) : Vdp × Nat :=
  let total := v.hc + t
  if c.cyclesPerLine = 0 then ({ v with hc := total }, 0)
  else Vdp.endOfLines c (total / c.cyclesPerLine) { v with hc := total % c.cyclesPerLine }

end Sys2Proof.Machine
end

