-- ==== Sys2Proof/Machine/Ops.lean ====
section
/-! DEFINITION. The named operations that instructions are written over: memory (20_memory.md rules R62 to R74), ports
(rules R80, R81), the stack (00_scope.md rule R12), free values, ending an instruction, taking an interrupt and
returning from one (60_exceptions.md rules R415 to R417, 45_jump_call_return.md rule R313). -/

namespace Sys2Proof.Machine

/-! The memory map. -/

/-- The storage location that an address selects (rules R62, R84). -/
inductive Loc
  | rom (off : Nat)
  | cartRam (off : Nat)
  | sysRam (off : Nat)
  | ctrl
  | page0
  | page1
  | page2
  deriving DecidableEq, Repr

/-- RAM_EN, `CTRL[3]` (rule R61). -/
def Bus.ramEnabled (b : Bus) : Bool := b.ctrl.getLsbD 3

/-- RAM_PAGE, `CTRL[2]` (rule R61). -/
def Bus.ramPage (b : Bus) : Nat := (b.ctrl.getLsbD 2).toNat

/-- The offset of a page register's page in ROM (rule R65; PAGE_COUNT 0, which no machine has: DEDUCED, log 19). -/
def Bus.pageBase (b : Bus) (page : Byte) : Nat := (page.toNat % b.pageCount) * 0x4000

/-- The location at a bus address, by the first line of rule R62 whose condition holds. -/
def Bus.locate (b : Bus) (addr : Word) : Loc :=
  let a := addr.toNat
  if a < 0x0400 then .rom a
  else if a < 0x4000 then .rom (b.pageBase b.page0 + a)
  else if a < 0x8000 then .rom (b.pageBase b.page1 + (a - 0x4000))
  else if a < 0xC000 then
    if b.ramEnabled then .cartRam (b.ramPage * 0x4000 + (a - 0x8000))
    else .rom (b.pageBase b.page2 + (a - 0x8000))
  else if a < 0xE000 then .sysRam (a - 0xC000)
  else if a < 0xFFFC then .sysRam (a - 0xE000)
  else if a = 0xFFFC then .ctrl
  else if a = 0xFFFD then .page0
  else if a = 0xFFFE then .page1
  else .page2

/-- The byte a location holds. -/
def Bus.load (b : Bus) : Loc → Byte
  | .rom off => Memory.read .rom b.rom off
  | .cartRam off => Memory.read .cartRam b.cartRam off
  | .sysRam off => Memory.read .sysRam b.sysRam off
  | .ctrl => b.ctrl
  | .page0 => b.page0
  | .page1 => b.page1
  | .page2 => b.page2

/-- A write to a location (rule R63): ROM ignores it. -/
def Bus.store (b : Bus) : Loc → Byte → Bus
  | .rom _, _ => b
  | .cartRam off, v => { b with cartRam := Memory.write .cartRam b.cartRam off v }
  | .sysRam off, v => { b with sysRam := Memory.write .sysRam b.sysRam off v }
  | .ctrl, v => { b with ctrl := v }
  | .page0, v => { b with page0 := v }
  | .page1, v => { b with page1 := v }
  | .page2, v => { b with page2 := v }

/-- `MemRead(addr, 1)` (rule R62). -/
def Bus.read (b : Bus) (addr : Word) : Byte := b.load (b.locate addr)

/-- `MemWrite(addr, 1, v)` (rule R63). -/
def Bus.write (b : Bus) (addr : Word) (v : Byte) : Bus := b.store (b.locate addr) v

/-- `MemRead(addr, 1)`. -/
def State.memRead (s : State) (addr : Word) : Byte := s.bus.read addr

/-- `MemWrite(addr, 1, v)`. -/
def State.memWrite (s : State) (addr : Word) (v : Byte) : State := { s with bus := s.bus.write addr v }

/-- `MemRead(addr, 2)`: little-endian, the second address wraps (rule R73). -/
def State.memRead16 (s : State) (addr : Word) : Word := mkWord (s.memRead (addr + 1#16)) (s.memRead addr)

/-- `MemWrite(addr, 2, v)`: the low byte first (rule R74). -/
def State.memWrite16 (s : State) (addr : Word) (v : Word) : State :=
  (s.memWrite addr (loByte v)).memWrite (addr + 1#16) (hiByte v)

/-- A read-modify-write of the byte at `addr` with the flags the operation gives (20_memory.md rule R76): one read, one
write at the same address. -/
def State.modify (s : State) (addr : Word) (op : Byte → Byte × Flags) : State :=
  let (v, fl) := op (s.memRead addr)
  (s.memWrite addr v).setFlags fl

/-! The stack (00_scope.md rule R12). -/

/-- `Push16(v)`: the high byte at `SP - 1`, then the low byte at `SP - 2`. -/
def State.push16 (s : State) (v : Word) : State :=
  let s1 := { s with sp := s.sp - 1#16 }
  let s2 := s1.memWrite s1.sp (hiByte v)
  let s3 := { s2 with sp := s2.sp - 1#16 }
  s3.memWrite s3.sp (loByte v)

/-- `Pop16()`: the value and the state with SP advanced by 2. -/
def State.pop16 (s : State) : Word × State :=
  (mkWord (s.memRead (s.sp + 1#16)) (s.memRead s.sp), { s with sp := s.sp + 2#16 })

/-- The exchange of a 16-bit value with the top of the stack: both bytes are read before either is written (rule R185).
The value read and the state with `v` stored. -/
def State.exchangeTop (s : State) (v : Word) : Word × State :=
  (mkWord (s.memRead (s.sp + 1#16)) (s.memRead s.sp),
    (s.memWrite (s.sp + 1#16) (hiByte v)).memWrite s.sp (loByte v))

/-! Free values. -/

/-- A fresh free byte (DESIGN CHOICE of the form, log 7). -/
def State.draw (s : State) : Byte × State := (Config.freeByte s.draws, { s with draws := s.draws + 1 })

/-! Ports. -/

/-- IDLE_PORT_VALUE (rules R7, R80). -/
def idlePortValue : Byte := 0xFF#8

/-- `IoRead(port)` (rule R80): the byte and the state after the read's device side effects. -/
def State.ioRead (s : State) (port : Byte) : Byte × State :=
  match (port.extractLsb' 6 2).toNat with
  | 0 => (idlePortValue, s)
  | 1 => if port.getLsbD 0 then (s.vdp.hCounter, s) else (s.vdp.vCounter s.cfg, s)
  | 2 =>
    if port.getLsbD 0 then
      let (free, s1) := s.draw
      let (v, d) := s1.vdp.statusRead (free.extractLsb' 0 5)
      (v, { s1 with vdp := d })
    else
      let (v, d) := s.vdp.dataRead
      (v, { s with vdp := d })
  | _ =>
    if port = 0xDC#8 ∨ port = 0xDD#8 then (Memory.read .latch s.bus.latch port.toNat, s)
    else (idlePortValue, s)

/-- `IoWrite(port, v)` (rule R81). -/
def State.ioWrite (s : State) (port v : Byte) : State :=
  match (port.extractLsb' 6 2).toNat with
  | 1 => { s with psg := s.psg.write v }
  | 2 =>
    if port.getLsbD 0 then { s with vdp := s.vdp.controlWrite v }
    else { s with vdp := s.vdp.dataWrite v }
  | _ => { s with bus := { s.bus with latch := Memory.write .latch s.bus.latch port.toNat v } }

/-! Ending an effect. -/

/-- The effect is complete and cost `t` T-states (00_scope.md rule R14). -/
def done (t : Nat) (s : State) : Result State := .next { s with cost := t }

/-! Interrupts: the only events that divert control (60_exceptions.md rules R414, R415). -/

/-- NMI_VECTOR (decision D4). -/
def nmiVector : Word := 0x0066#16

/-- INT_FIXED_VECTOR (decision D4). -/
def intFixedVector : Word := 0x0038#16

/-- INT_LINE (rule R461). -/
def State.intLine (s : State) : Bool := s.vdp.intLine

/-- `VCounter()` (rule R458). -/
def State.vCounter (s : State) : Byte := s.vdp.vCounter s.cfg

/-- `nmi_cond` (rule R415). -/
def State.nmiCond (s : State) : Bool :=
  s.nmiReq &&
    match s.cfg.pauseSampleLine with
    | none => true
    | some line => decide (s.vCounter = line)

/-- `int_cond` (rule R415). -/
def State.intCond (s : State) : Bool := s.iff1 && s.intLine

/-- What accepting either interrupt does: it leaves HALTED, drops a pending enable (decision D10), sets the two enable
flags as the kind of interrupt says, and pushes PC (rules R416, R417). The caller then sets PC. -/
def State.accept (s : State) (iff1 iff2 : Bool) : State :=
  { s with halted := false, eiPending := false, iff1 := iff1, iff2 := iff2 }.push16 s.pc

/-- `AcceptNMI` (rule R416). -/
def State.acceptNmi (s : State) : State :=
  { { s with nmiReq := false }.accept false s.iff1 with pc := nmiVector, cost := 11 }

/-- The address of the mode-2 vector table entry, `{I, INT_DATA_BYTE}` (rule R417). -/
def State.vectorEntry (s : State) : Word := mkWord s.i s.cfg.intDataByte

/-- `AcceptINT` (rule R417); modes 0 and 1 share the fixed vector (decision D5). The table is read after the push. -/
def State.acceptInt (s : State) : State :=
  let s1 := s.accept false false
  match s.im with
  | .im2 => { s1 with pc := s1.memRead16 s1.vectorEntry, cost := 19 }
  | .im0 | .im1 => { s1 with pc := intFixedVector, cost := 13 }

/-- The return of `RETN` and `RETI`: `PC <- Pop16(); IFF1 <- IFF2` (rules R312, R313). -/
def State.returnFromInterrupt (s : State) : State :=
  let (v, s1) := s.pop16
  { s1 with pc := v, iff1 := s1.iff2 }

/-- The halted idle step: 4 T, no processor state changes (rule R412). -/
def State.haltedIdle (s : State) : State := { s with cost := 4 }

/-! Fetching. -/

/-- The instruction at PC: the four bytes at and after PC are read, of which the decoder uses as many as the instruction
has (rules R78, R104; reads have no side effect: DEDUCED, log 13). -/
def State.fetch (s : State) : Instr :=
  decode4 (s.memRead s.pc) (s.memRead (s.pc + 1#16)) (s.memRead (s.pc + 2#16)) (s.memRead (s.pc + 3#16))

/-- The state in which an instruction's effect runs: EI_PENDING sampled and cleared, PC past the bytes fetched (rules
R413, R27). -/
def State.beginInstr (s : State) (size : Nat) : State :=
  { s with eiPending := false, pc := s.pc + BitVec.ofNat 16 size }

/-- `R <- {R[7], (R[6:0] + 1) mod 128}` (rule R29). -/
def nextR (r : Byte) : Byte := r.extractLsb' 7 1 ++ (r.extractLsb' 0 7 + 1#7)

/-- After the effect: the deferred enable lands if it was pending, then R counts the step (rule R413). -/
def State.endInstr (s : State) (wasPending : Bool) : State :=
  { s with
    iff1 := s.iff1 || wasPending
    iff2 := s.iff2 || wasPending
    r := nextR s.r }

/-! The peripherals' share of a machine step (rules R410, R517). -/

/-- How often `samples_ready` has fired after `n` more sample steps (rule R510). -/
def Notices.countSamples (k : Notices) (c : Config) (n : Nat) : Notices :=
  let total := k.sinceReady + n
  if c.psgReadySamples = 0 then { k with sinceReady := total }
  else
    { k with
      samplesReady := k.samplesReady + total / c.psgReadySamples
      sinceReady := total % c.psgReadySamples }

/-- `PsgUpdate(t)` and then `VdpUpdate(t)` with `t` the cost of the Step just done (rules R410, R517). -/
def State.updateDevices (s : State) : State :=
  let s1 :=
    { s with
      psg := s.psg.update s.cfg s.cost
      notices := s.notices.countSamples s.cfg (s.psg.samplesDue s.cfg s.cost) }
  let (v, fired) := s1.vdp.update s1.cfg s1.cost
  { s1 with vdp := v, notices := { s1.notices with frameReady := s1.notices.frameReady + fired } }

/-! Loading a program from outside (70_reset_and_hazards.md rule R520; DESIGN CHOICE, log 15). -/

/-- Put a byte into a location, ROM included: what loading an image does, never a bus write. -/
def Bus.poke (b : Bus) : Loc → Byte → Bus
  | .rom off, v => { b with rom := Memory.write .rom b.rom off v }
  | .cartRam off, v => b.store (.cartRam off) v
  | .sysRam off, v => b.store (.sysRam off) v
  | .ctrl, v => b.store .ctrl v
  | .page0, v => b.store .page0 v
  | .page1, v => b.store .page1 v
  | .page2, v => b.store .page2 v

/-- Put a byte where a read of `addr` finds it. -/
def State.poke (s : State) (addr : Word) (v : Byte) : State :=
  { s with bus := s.bus.poke (s.bus.locate addr) v }

/-- The state in which the next step fetches and runs the four given bytes: they stand at PC, and nothing keeps the step
from its branch (c): not halted, no interrupt accepted (rule R411). -/
def State.placeInstr (s : State) (b0 b1 b2 b3 : Byte) : State :=
  let s1 := (((s.poke s.pc b0).poke (s.pc + 1#16) b1).poke (s.pc + 2#16) b2).poke (s.pc + 3#16) b3
  { s1 with
    halted := false
    nmiReq := s1.nmiReq && !s1.nmiCond
    iff1 := s1.iff1 && !s1.intLine }

end Sys2Proof.Machine
end

