-- ==== Sys2Proof/Machine/Alu16.lean ====
section
/-! DEFINITION. The meanings of the 16-bit arithmetic group (43_alu16.md). An effect runs with PC at the
following instruction (10_state.md rule R27) and says its cost. -/

namespace Sys2Proof.Machine

/-- `ADD HL,ss` (R241). -/
def execAddHLRp (rp : Reg16) (s : State) : Result State :=
  let (v, fl) := add16 s.main.hl (s.pair rp) s.flags
  done 11 ((s.setHL v).setFlags fl)

/-- `ADC HL,ss` (R242). -/
def execAdcHLRp (rp : Reg16) (s : State) : Result State :=
  let (v, fl) := adc16 s.main.hl (s.pair rp) s.flags.c
  done 15 ((s.setHL v).setFlags fl)

/-- `SBC HL,ss` (R243). -/
def execSbcHLRp (rp : Reg16) (s : State) : Result State :=
  let (v, fl) := sbc16 s.main.hl (s.pair rp) s.flags.c
  done 15 ((s.setHL v).setFlags fl)

/-- `INC ss` (R246). -/
def execIncRp (px : Pfx) (rp : Reg16) (s : State) : Result State :=
  done (6 + px.extra) (s.setPair rp (s.pair rp + 1#16))

/-- `DEC ss` (R247). -/
def execDecRp (px : Pfx) (rp : Reg16) (s : State) : Result State :=
  done (6 + px.extra) (s.setPair rp (s.pair rp - 1#16))

/-- `ADD IX,rp` with `.hl` naming IX itself (R244). -/
def execAddIXRp (rp : Reg16) (s : State) : Result State :=
  let (v, fl) := add16 (s.index .ix) (s.xpair .ix rp) s.flags
  done 15 ((s.setIndex .ix v).setFlags fl)

/-- `INC IX` (R248). -/
def execIncIX (s : State) : Result State :=
  done 10 (s.setIndex .ix (s.index .ix + 1#16))

/-- `DEC IX` (R249). -/
def execDecIX (s : State) : Result State :=
  done 10 (s.setIndex .ix (s.index .ix - 1#16))

/-- `ADD IY,rp` with `.hl` naming IY itself (R245). -/
def execAddIYRp (rp : Reg16) (s : State) : Result State :=
  let (v, fl) := add16 (s.index .iy) (s.xpair .iy rp) s.flags
  done 15 ((s.setIndex .iy v).setFlags fl)

/-- `INC IY` (R248). -/
def execIncIY (s : State) : Result State :=
  done 10 (s.setIndex .iy (s.index .iy + 1#16))

/-- `DEC IY` (R249). -/
def execDecIY (s : State) : Result State :=
  done 10 (s.setIndex .iy (s.index .iy - 1#16))

end Sys2Proof.Machine
end

