-- ==== Sys2Proof/Machine/Alu8.lean ====
section
/-! DEFINITION. The meanings of the 8-bit arithmetic and logic group (42_alu8.md). An effect runs with PC at the
following instruction (10_state.md rule R27) and says its cost. -/

namespace Sys2Proof.Machine

/-- `A, F <- op(A, v)` for an accumulator operation (rules R202 to R209). -/
def State.accumulate (s : State) (op : AluOp) (v : Byte) : State :=
  let (a, fl) := aluOp op s.main.a v s.flags.c
  (s.setA a).setFlags fl

/-- `NEG`: `A <- sub8(0, A, 0)` (rule R220). -/
def State.negate (s : State) : State :=
  let (a, fl) := sub8 0#8 s.main.a false
  (s.setA a).setFlags fl

/-- `ADD A,r` (R202). -/
def execAddR (px : Pfx) (r : Reg8) (s : State) : Result State :=
  done (4 + px.extra) (s.accumulate .add (s.reg r))

/-- `ADD A,n` (R202). -/
def execAddN (px : Pfx) (n : Byte) (s : State) : Result State :=
  done (7 + px.extra) (s.accumulate .add n)

/-- `ADD A,(HL)` (R202). -/
def execAddMHL (s : State) : Result State :=
  done 7 (s.accumulate .add (s.memRead s.main.hl))

/-- `ADD A,(IX+d)` (R202). -/
def execAddMIX (d : Byte) (s : State) : Result State :=
  done 19 (s.accumulate .add (s.memRead (s.indexed .ix d)))

/-- `ADD A,IXH`, `ADD A,IXL` (R202). -/
def execAddIXHalf (h : Half) (s : State) : Result State :=
  done 8 (s.accumulate .add (s.half .ix h))

/-- `ADD A,(IY+d)` (R202). -/
def execAddMIY (d : Byte) (s : State) : Result State :=
  done 19 (s.accumulate .add (s.memRead (s.indexed .iy d)))

/-- `ADD A,IYH`, `ADD A,IYL` (R202). -/
def execAddIYHalf (h : Half) (s : State) : Result State :=
  done 8 (s.accumulate .add (s.half .iy h))

/-- `ADC A,r` (R203). -/
def execAdcR (px : Pfx) (r : Reg8) (s : State) : Result State :=
  done (4 + px.extra) (s.accumulate .adc (s.reg r))

/-- `ADC A,n` (R203). -/
def execAdcN (px : Pfx) (n : Byte) (s : State) : Result State :=
  done (7 + px.extra) (s.accumulate .adc n)

/-- `ADC A,(HL)` (R203). -/
def execAdcMHL (s : State) : Result State :=
  done 7 (s.accumulate .adc (s.memRead s.main.hl))

/-- `ADC A,(IX+d)` (R203). -/
def execAdcMIX (d : Byte) (s : State) : Result State :=
  done 19 (s.accumulate .adc (s.memRead (s.indexed .ix d)))

/-- `ADC A,IXH`, `ADC A,IXL` (R203). -/
def execAdcIXHalf (h : Half) (s : State) : Result State :=
  done 8 (s.accumulate .adc (s.half .ix h))

/-- `ADC A,(IY+d)` (R203). -/
def execAdcMIY (d : Byte) (s : State) : Result State :=
  done 19 (s.accumulate .adc (s.memRead (s.indexed .iy d)))

/-- `ADC A,IYH`, `ADC A,IYL` (R203). -/
def execAdcIYHalf (h : Half) (s : State) : Result State :=
  done 8 (s.accumulate .adc (s.half .iy h))

/-- `SUB r` (R204). -/
def execSubR (px : Pfx) (r : Reg8) (s : State) : Result State :=
  done (4 + px.extra) (s.accumulate .sub (s.reg r))

/-- `SUB n` (R204). -/
def execSubN (px : Pfx) (n : Byte) (s : State) : Result State :=
  done (7 + px.extra) (s.accumulate .sub n)

/-- `SUB (HL)` (R204). -/
def execSubMHL (s : State) : Result State :=
  done 7 (s.accumulate .sub (s.memRead s.main.hl))

/-- `SUB (IX+d)` (R204). -/
def execSubMIX (d : Byte) (s : State) : Result State :=
  done 19 (s.accumulate .sub (s.memRead (s.indexed .ix d)))

/-- `SUB IXH`, `SUB IXL` (R204). -/
def execSubIXHalf (h : Half) (s : State) : Result State :=
  done 8 (s.accumulate .sub (s.half .ix h))

/-- `SUB (IY+d)` (R204). -/
def execSubMIY (d : Byte) (s : State) : Result State :=
  done 19 (s.accumulate .sub (s.memRead (s.indexed .iy d)))

/-- `SUB IYH`, `SUB IYL` (R204). -/
def execSubIYHalf (h : Half) (s : State) : Result State :=
  done 8 (s.accumulate .sub (s.half .iy h))

/-- `SBC A,r` (R205). -/
def execSbcR (px : Pfx) (r : Reg8) (s : State) : Result State :=
  done (4 + px.extra) (s.accumulate .sbc (s.reg r))

/-- `SBC A,n` (R205). -/
def execSbcN (px : Pfx) (n : Byte) (s : State) : Result State :=
  done (7 + px.extra) (s.accumulate .sbc n)

/-- `SBC A,(HL)` (R205). -/
def execSbcMHL (s : State) : Result State :=
  done 7 (s.accumulate .sbc (s.memRead s.main.hl))

/-- `SBC A,(IX+d)` (R205). -/
def execSbcMIX (d : Byte) (s : State) : Result State :=
  done 19 (s.accumulate .sbc (s.memRead (s.indexed .ix d)))

/-- `SBC A,IXH`, `SBC A,IXL` (R205). -/
def execSbcIXHalf (h : Half) (s : State) : Result State :=
  done 8 (s.accumulate .sbc (s.half .ix h))

/-- `SBC A,(IY+d)` (R205). -/
def execSbcMIY (d : Byte) (s : State) : Result State :=
  done 19 (s.accumulate .sbc (s.memRead (s.indexed .iy d)))

/-- `SBC A,IYH`, `SBC A,IYL` (R205). -/
def execSbcIYHalf (h : Half) (s : State) : Result State :=
  done 8 (s.accumulate .sbc (s.half .iy h))

/-- `AND r` (R206). -/
def execAndR (px : Pfx) (r : Reg8) (s : State) : Result State :=
  done (4 + px.extra) (s.accumulate .and (s.reg r))

/-- `AND n` (R206). -/
def execAndN (px : Pfx) (n : Byte) (s : State) : Result State :=
  done (7 + px.extra) (s.accumulate .and n)

/-- `AND (HL)` (R206). -/
def execAndMHL (s : State) : Result State :=
  done 7 (s.accumulate .and (s.memRead s.main.hl))

/-- `AND (IX+d)` (R206). -/
def execAndMIX (d : Byte) (s : State) : Result State :=
  done 19 (s.accumulate .and (s.memRead (s.indexed .ix d)))

/-- `AND IXH`, `AND IXL` (R206). -/
def execAndIXHalf (h : Half) (s : State) : Result State :=
  done 8 (s.accumulate .and (s.half .ix h))

/-- `AND (IY+d)` (R206). -/
def execAndMIY (d : Byte) (s : State) : Result State :=
  done 19 (s.accumulate .and (s.memRead (s.indexed .iy d)))

/-- `AND IYH`, `AND IYL` (R206). -/
def execAndIYHalf (h : Half) (s : State) : Result State :=
  done 8 (s.accumulate .and (s.half .iy h))

/-- `XOR r` (R207). -/
def execXorR (px : Pfx) (r : Reg8) (s : State) : Result State :=
  done (4 + px.extra) (s.accumulate .xor (s.reg r))

/-- `XOR n` (R207). -/
def execXorN (px : Pfx) (n : Byte) (s : State) : Result State :=
  done (7 + px.extra) (s.accumulate .xor n)

/-- `XOR (HL)` (R207). -/
def execXorMHL (s : State) : Result State :=
  done 7 (s.accumulate .xor (s.memRead s.main.hl))

/-- `XOR (IX+d)` (R207). -/
def execXorMIX (d : Byte) (s : State) : Result State :=
  done 19 (s.accumulate .xor (s.memRead (s.indexed .ix d)))

/-- `XOR IXH`, `XOR IXL` (R207). -/
def execXorIXHalf (h : Half) (s : State) : Result State :=
  done 8 (s.accumulate .xor (s.half .ix h))

/-- `XOR (IY+d)` (R207). -/
def execXorMIY (d : Byte) (s : State) : Result State :=
  done 19 (s.accumulate .xor (s.memRead (s.indexed .iy d)))

/-- `XOR IYH`, `XOR IYL` (R207). -/
def execXorIYHalf (h : Half) (s : State) : Result State :=
  done 8 (s.accumulate .xor (s.half .iy h))

/-- `OR r` (R208). -/
def execOrR (px : Pfx) (r : Reg8) (s : State) : Result State :=
  done (4 + px.extra) (s.accumulate .or (s.reg r))

/-- `OR n` (R208). -/
def execOrN (px : Pfx) (n : Byte) (s : State) : Result State :=
  done (7 + px.extra) (s.accumulate .or n)

/-- `OR (HL)` (R208). -/
def execOrMHL (s : State) : Result State :=
  done 7 (s.accumulate .or (s.memRead s.main.hl))

/-- `OR (IX+d)` (R208). -/
def execOrMIX (d : Byte) (s : State) : Result State :=
  done 19 (s.accumulate .or (s.memRead (s.indexed .ix d)))

/-- `OR IXH`, `OR IXL` (R208). -/
def execOrIXHalf (h : Half) (s : State) : Result State :=
  done 8 (s.accumulate .or (s.half .ix h))

/-- `OR (IY+d)` (R208). -/
def execOrMIY (d : Byte) (s : State) : Result State :=
  done 19 (s.accumulate .or (s.memRead (s.indexed .iy d)))

/-- `OR IYH`, `OR IYL` (R208). -/
def execOrIYHalf (h : Half) (s : State) : Result State :=
  done 8 (s.accumulate .or (s.half .iy h))

/-- `CP r` (R209). -/
def execCpR (px : Pfx) (r : Reg8) (s : State) : Result State :=
  done (4 + px.extra) (s.accumulate .cp (s.reg r))

/-- `CP n` (R209). -/
def execCpN (px : Pfx) (n : Byte) (s : State) : Result State :=
  done (7 + px.extra) (s.accumulate .cp n)

/-- `CP (HL)` (R209). -/
def execCpMHL (s : State) : Result State :=
  done 7 (s.accumulate .cp (s.memRead s.main.hl))

/-- `CP (IX+d)` (R209). -/
def execCpMIX (d : Byte) (s : State) : Result State :=
  done 19 (s.accumulate .cp (s.memRead (s.indexed .ix d)))

/-- `CP IXH`, `CP IXL` (R209). -/
def execCpIXHalf (h : Half) (s : State) : Result State :=
  done 8 (s.accumulate .cp (s.half .ix h))

/-- `CP (IY+d)` (R209). -/
def execCpMIY (d : Byte) (s : State) : Result State :=
  done 19 (s.accumulate .cp (s.memRead (s.indexed .iy d)))

/-- `CP IYH`, `CP IYL` (R209). -/
def execCpIYHalf (h : Half) (s : State) : Result State :=
  done 8 (s.accumulate .cp (s.half .iy h))

/-- `INC r` (R210). -/
def execIncR (px : Pfx) (r : Reg8) (s : State) : Result State :=
  let (v, fl) := inc8 (s.reg r) s.flags
  done (4 + px.extra) ((s.setReg r v).setFlags fl)

/-- `INC (HL)` (R211). -/
def execIncMHL (s : State) : Result State :=
  done 11 (s.modify s.main.hl fun v => inc8 v s.flags)

/-- `INC (IX+d)` (R212). -/
def execIncMIX (d : Byte) (s : State) : Result State :=
  done 23 (s.modify (s.indexed .ix d) fun v => inc8 v s.flags)

/-- `INC IXH`, `INC IXL` (R213). -/
def execIncIXHalf (h : Half) (s : State) : Result State :=
  let (v, fl) := inc8 (s.half .ix h) s.flags
  done 8 ((s.setHalf .ix h v).setFlags fl)

/-- `INC (IY+d)` (R212). -/
def execIncMIY (d : Byte) (s : State) : Result State :=
  done 23 (s.modify (s.indexed .iy d) fun v => inc8 v s.flags)

/-- `INC IYH`, `INC IYL` (R213). -/
def execIncIYHalf (h : Half) (s : State) : Result State :=
  let (v, fl) := inc8 (s.half .iy h) s.flags
  done 8 ((s.setHalf .iy h v).setFlags fl)

/-- `DEC r` (R214). -/
def execDecR (px : Pfx) (r : Reg8) (s : State) : Result State :=
  let (v, fl) := dec8 (s.reg r) s.flags
  done (4 + px.extra) ((s.setReg r v).setFlags fl)

/-- `DEC (HL)` (R215). -/
def execDecMHL (s : State) : Result State :=
  done 11 (s.modify s.main.hl fun v => dec8 v s.flags)

/-- `DEC (IX+d)` (R216). -/
def execDecMIX (d : Byte) (s : State) : Result State :=
  done 23 (s.modify (s.indexed .ix d) fun v => dec8 v s.flags)

/-- `DEC IXH`, `DEC IXL` (R217). -/
def execDecIXHalf (h : Half) (s : State) : Result State :=
  let (v, fl) := dec8 (s.half .ix h) s.flags
  done 8 ((s.setHalf .ix h v).setFlags fl)

/-- `DEC (IY+d)` (R216). -/
def execDecMIY (d : Byte) (s : State) : Result State :=
  done 23 (s.modify (s.indexed .iy d) fun v => dec8 v s.flags)

/-- `DEC IYH`, `DEC IYL` (R217). -/
def execDecIYHalf (h : Half) (s : State) : Result State :=
  let (v, fl) := dec8 (s.half .iy h) s.flags
  done 8 ((s.setHalf .iy h v).setFlags fl)

/-- `DAA` (R218). -/
def execDaa (px : Pfx) (s : State) : Result State :=
  let (v, fl) := daa8 s.main.a s.flags
  done (4 + px.extra) ((s.setA v).setFlags fl)

/-- `CPL` (R219). -/
def execCpl (px : Pfx) (s : State) : Result State :=
  done (4 + px.extra) ((s.setA (~~~s.main.a)).setFlags (cplFlags s.flags (~~~s.main.a)))

/-- `NEG`, `ED 44` (R220). -/
def execNeg (s : State) : Result State :=
  done 8 s.negate

/-- An undocumented duplicate of `NEG`, opcode `01 y 100` (R220). -/
def execNegDup (_y : BitVec 3) (s : State) : Result State :=
  done 8 s.negate

/-- `SCF` (R221). -/
def execScf (px : Pfx) (s : State) : Result State :=
  done (4 + px.extra) (s.setFlags (scfFlags s.flags s.main.a))

/-- `CCF` (R222). -/
def execCcf (px : Pfx) (s : State) : Result State :=
  done (4 + px.extra) (s.setFlags (ccfFlags s.flags s.main.a))

end Sys2Proof.Machine
end

