-- ==== Sys2Proof/Machine/Block.lean ====
section
/-! DEFINITION. The meanings of the block transfer, search and I/O group (46_block.md); a pointer moves by `step`, +1 or -1 modulo 65536 (rule R330). An effect runs with PC at the
following instruction (10_state.md rule R27) and says its cost. -/

namespace Sys2Proof.Machine

/-- One unit of a block transfer (rule R333): `(DE) <- (HL)`, pointers and BC stepped, `ldflags`. -/
def State.transferUnit (s : State) (step : Word) : State :=
  let v := s.memRead s.main.hl
  let bc := s.main.bc - 1#16
  let s1 := s.memWrite s.main.de v
  (((s1.setHL (s.main.hl + step)).setDE (s.main.de + step)).setBC bc).setFlags (ldFlags s.flags s.main.a v bc)

/-- One unit of a block search (rule R337): A compared with `(HL)`, HL and BC stepped, `cpflags`. -/
def State.compareUnit (s : State) (step : Word) : State :=
  let v := s.memRead s.main.hl
  let bc := s.main.bc - 1#16
  ((s.setHL (s.main.hl + step)).setBC bc).setFlags (cpFlags s.flags s.main.a v bc)

/-- The flags after a unit of block I/O (rule R349): F.Z from the decremented B, the others free (log 7). -/
def State.setBlockIoFlags (s : State) : State :=
  let (free, s1) := s.draw
  s1.setFlags (blockIoFlags free s.main.b)

/-- One unit of block input (rule R341): `(HL) <- port C`, HL stepped, B decremented. -/
def State.inputUnit (s : State) (step : Word) : State :=
  let (v, s1) := s.ioRead s.main.c
  let s2 := s1.memWrite s.main.hl v
  ((s2.setHL (s.main.hl + step)).setReg .b (s.main.b - 1#8)).setBlockIoFlags

/-- One unit of block output (rule R345): `port C <- (HL)`, HL stepped, B decremented. -/
def State.outputUnit (s : State) (step : Word) : State :=
  let v := s.memRead s.main.hl
  let s1 := (s.setReg .b (s.main.b - 1#8)).ioWrite s.main.c v
  (s1.setHL (s.main.hl + step)).setBlockIoFlags

/-- The end of a repeating form after its unit (rule R332): back by 2 at 21 T while the condition holds, else on at
16 T. -/
def State.repeatWhile (t : State) (more : State → Bool) : Result State :=
  if more t then done 21 { t with pc := t.pc - 2#16 } else done 16 t

/-- `LDI` (R333). -/
def execLdi (s : State) : Result State :=
  done 16 (s.transferUnit 1#16)

/-- `LDIR` (R335). -/
def execLdir (s : State) : Result State :=
  (s.transferUnit 1#16).repeatWhile fun t => decide (t.main.bc ≠ 0#16)

/-- `CPI` (R337). -/
def execCpi (s : State) : Result State :=
  done 16 (s.compareUnit 1#16)

/-- `CPIR` (R339). -/
def execCpir (s : State) : Result State :=
  (s.compareUnit 1#16).repeatWhile fun t => decide (t.main.bc ≠ 0#16) && !t.flags.z

/-- `INI` (R341). -/
def execIni (s : State) : Result State :=
  done 16 (s.inputUnit 1#16)

/-- `INIR` (R343). -/
def execInir (s : State) : Result State :=
  (s.inputUnit 1#16).repeatWhile fun t => decide (t.main.b ≠ 0#8)

/-- `OUTI` (R345). -/
def execOuti (s : State) : Result State :=
  done 16 (s.outputUnit 1#16)

/-- `OTIR` (R347). -/
def execOtir (s : State) : Result State :=
  (s.outputUnit 1#16).repeatWhile fun t => decide (t.main.b ≠ 0#8)

/-- `LDD` (R334). -/
def execLdd (s : State) : Result State :=
  done 16 (s.transferUnit (-1#16))

/-- `LDDR` (R336). -/
def execLddr (s : State) : Result State :=
  (s.transferUnit (-1#16)).repeatWhile fun t => decide (t.main.bc ≠ 0#16)

/-- `CPD` (R338). -/
def execCpd (s : State) : Result State :=
  done 16 (s.compareUnit (-1#16))

/-- `CPDR` (R340). -/
def execCpdr (s : State) : Result State :=
  (s.compareUnit (-1#16)).repeatWhile fun t => decide (t.main.bc ≠ 0#16) && !t.flags.z

/-- `IND` (R342). -/
def execInd (s : State) : Result State :=
  done 16 (s.inputUnit (-1#16))

/-- `INDR` (R344). -/
def execIndr (s : State) : Result State :=
  (s.inputUnit (-1#16)).repeatWhile fun t => decide (t.main.b ≠ 0#8)

/-- `OUTD` (R346). -/
def execOutd (s : State) : Result State :=
  done 16 (s.outputUnit (-1#16))

/-- `OTDR` (R348). -/
def execOtdr (s : State) : Result State :=
  (s.outputUnit (-1#16)).repeatWhile fun t => decide (t.main.b ≠ 0#8)

end Sys2Proof.Machine
end

