-- ==== Sys2Proof/Machine/Control.lean ====
section
/-! DEFINITION. The meanings of the CPU control group (48_cpu_control.md). An effect runs with PC at the
following instruction (10_state.md rule R27) and says its cost. -/

namespace Sys2Proof.Machine

/-- `NOP` (R380). -/
def execNop (px : Pfx) (s : State) : Result State :=
  done (4 + px.extra) s

/-- `HALT` (R381). -/
def execHalt (px : Pfx) (s : State) : Result State :=
  done (4 + px.extra) { s with halted := true }

/-- `DI` (R382). -/
def execDi (px : Pfx) (s : State) : Result State :=
  done (4 + px.extra) { s with iff1 := false, iff2 := false }

/-- `EI` (R383). -/
def execEi (px : Pfx) (s : State) : Result State :=
  done (4 + px.extra) { s with eiPending := true }

/-- `IM 0`, `ED 46` (R384). -/
def execIm0 (s : State) : Result State :=
  done 8 { s with im := .im0 }

/-- An undocumented duplicate of `IM 0`, opcode `01 y 110` (R384). -/
def execIm0Dup (_y : BitVec 3) (s : State) : Result State :=
  done 8 { s with im := .im0 }

/-- `IM 1`, `ED 56` (R385). -/
def execIm1 (s : State) : Result State :=
  done 8 { s with im := .im1 }

/-- The undocumented duplicate of `IM 1`, `ED 76` (R385). -/
def execIm1Dup (s : State) : Result State :=
  done 8 { s with im := .im1 }

/-- `IM 2`, `ED 5E` (R386). -/
def execIm2 (s : State) : Result State :=
  done 8 { s with im := .im2 }

/-- The undocumented duplicate of `IM 2`, `ED 7E` (R386). -/
def execIm2Dup (s : State) : Result State :=
  done 8 { s with im := .im2 }

/-- The undocumented no-operations `ED 77`, `ED 7F` (R387). -/
def execNopED (_y : BitVec 3) (s : State) : Result State :=
  done 8 s

/-- An undefined extended opcode (R388), by the parameter ED_UNDEFINED (log 17); the opcode byte selects nothing. -/
def execUndefinedED (_op : Byte) (s : State) : Result State :=
  match s.cfg.edUndefined with
  | .nop => done 8 s
  | .sourceNoni => done 8 { s with iff1 := false, iff2 := false, eiPending := true }

/-- An index prefix before another (R389): PC goes back to the second prefix (DEDUCED, log 14). -/
def execPrefixNop (_first : Idx) (_second : Idx) (s : State) : Result State :=
  done 4 { s with pc := s.pc - 1#16 }

/-- An index prefix before `ED` (R391): PC goes back to the `ED` byte (DEDUCED, log 14). -/
def execPrefixBeforeED (_first : Idx) (s : State) : Result State :=
  done 4 { s with pc := s.pc - 1#16 }

end Sys2Proof.Machine
end

