-- ==== Sys2Proof/Machine/Io.lean ====
section
/-! DEFINITION. The meanings of the input and output group (47_io.md). An effect runs with PC at the
following instruction (10_state.md rule R27) and says its cost. -/

namespace Sys2Proof.Machine

/-- `IN A,(n)` (R360). -/
def execInAN (px : Pfx) (n : Byte) (s : State) : Result State :=
  let (v, s1) := s.ioRead n
  done (11 + px.extra) (s1.setA v)

/-- `IN r,(C)` (R361). -/
def execInRC (r : Reg8) (s : State) : Result State :=
  let (v, s1) := s.ioRead s.main.c
  done 12 ((s1.setReg r v).setFlags (inFlags s.flags v))

/-- `IN (C)`, flags only (R362). -/
def execInC (s : State) : Result State :=
  let (v, s1) := s.ioRead s.main.c
  done 12 (s1.setFlags (inFlags s.flags v))

/-- `OUT (n),A` (R363). -/
def execOutNA (px : Pfx) (n : Byte) (s : State) : Result State :=
  done (11 + px.extra) (s.ioWrite n s.main.a)

/-- `OUT (C),r` (R364). -/
def execOutCR (r : Reg8) (s : State) : Result State :=
  done 12 (s.ioWrite s.main.c (s.reg r))

/-- `OUT (C),0` (R365). -/
def execOutC0 (s : State) : Result State :=
  done 12 (s.ioWrite s.main.c 0x00#8)

end Sys2Proof.Machine
end

