-- ==== Sys2Proof/Machine/Jump.lean ====
section
/-! DEFINITION. The meanings of the jump, call and return group (45_jump_call_return.md). An effect runs with PC at the
following instruction (10_state.md rule R27) and says its cost. -/

namespace Sys2Proof.Machine

/-- `Push16(PC); PC <- target` (rules R308, R314). -/
def State.callTo (s : State) (target : Word) : State :=
  { s.push16 s.pc with pc := target }

/-- `PC <- Pop16()` (rule R310). -/
def State.returnTo (s : State) : State :=
  let (v, s1) := s.pop16
  { s1 with pc := v }

/-- `JP nn` (R300). -/
def execJp (px : Pfx) (nn : Word) (s : State) : Result State :=
  done (10 + px.extra) { s with pc := nn }

/-- `JP cc,nn` (R301). -/
def execJpCC (px : Pfx) (cc : Cond) (nn : Word) (s : State) : Result State :=
  done (10 + px.extra) (if s.flags.holds cc then { s with pc := nn } else s)

/-- `JR e` (R302). -/
def execJr (px : Pfx) (e : Byte) (s : State) : Result State :=
  done (12 + px.extra) { s with pc := s.relative e }

/-- `JR cc,e` (R304), `cc` one of NZ Z NC C. -/
def execJrCC (px : Pfx) (cc : Cond) (e : Byte) (s : State) : Result State :=
  if s.flags.holds cc then done (12 + px.extra) { s with pc := s.relative e }
  else done (7 + px.extra) s

/-- `JP (HL)` (R305). -/
def execJpHL (s : State) : Result State :=
  done 4 { s with pc := s.main.hl }

/-- `DJNZ e` (R307). -/
def execDjnz (px : Pfx) (e : Byte) (s : State) : Result State :=
  let b := s.main.b - 1#8
  let s1 := s.setReg .b b
  if b ≠ 0#8 then done (13 + px.extra) { s1 with pc := s1.relative e }
  else done (8 + px.extra) s1

/-- `CALL nn` (R308). -/
def execCall (px : Pfx) (nn : Word) (s : State) : Result State :=
  done (17 + px.extra) (s.callTo nn)

/-- `CALL cc,nn` (R309). -/
def execCallCC (px : Pfx) (cc : Cond) (nn : Word) (s : State) : Result State :=
  if s.flags.holds cc then done (17 + px.extra) (s.callTo nn)
  else done (10 + px.extra) s

/-- `RET` (R310). -/
def execRet (px : Pfx) (s : State) : Result State :=
  done (10 + px.extra) s.returnTo

/-- `RET cc` (R311). -/
def execRetCC (px : Pfx) (cc : Cond) (s : State) : Result State :=
  if s.flags.holds cc then done (11 + px.extra) s.returnTo
  else done (5 + px.extra) s

/-- `RETI` (R312). -/
def execReti (s : State) : Result State :=
  done 14 s.returnFromInterrupt

/-- `RETN`, `ED 45` (R313). -/
def execRetn (s : State) : Result State :=
  done 14 s.returnFromInterrupt

/-- An undocumented duplicate of `RETN`, opcode `01 y 101` (R313). -/
def execRetnDup (_y : BitVec 3) (s : State) : Result State :=
  done 14 s.returnFromInterrupt

/-- `RST y*8` (R314). -/
def execRst (px : Pfx) (y : BitVec 3) (s : State) : Result State :=
  done (11 + px.extra) (s.callTo (y.setWidth 16 * 8#16))

/-- `JP (IX)` (R306). -/
def execJpIX (s : State) : Result State :=
  done 8 { s with pc := s.index .ix }

/-- `JP (IY)` (R306). -/
def execJpIY (s : State) : Result State :=
  done 8 { s with pc := s.index .iy }

end Sys2Proof.Machine
end

