-- ==== Sys2Proof/Machine/Load16.lean ====
section
/-! DEFINITION. The meanings of the 16-bit load, stack and exchange group (41_load16_stack_exchange.md). An effect runs with PC at the
following instruction (10_state.md rule R27) and says its cost. -/

namespace Sys2Proof.Machine

/-- `LD dd,nn` (R170). -/
def execLdRpNN (px : Pfx) (rp : Reg16) (nn : Word) (s : State) : Result State :=
  done (10 + px.extra) (s.setPair rp nn)

/-- `LD HL,(nn)` (R172). -/
def execLdHLMNN (nn : Word) (s : State) : Result State :=
  done 16 (s.setHL (s.memRead16 nn))

/-- `LD dd,(nn)` (R173). -/
def execLdRpMNN (rp : Reg16) (nn : Word) (s : State) : Result State :=
  done 20 (s.setPair rp (s.memRead16 nn))

/-- `LD (nn),HL` (R175). -/
def execLdMNNHL (nn : Word) (s : State) : Result State :=
  done 16 (s.memWrite16 nn s.main.hl)

/-- `LD (nn),dd` (R176). -/
def execLdMNNRp (rp : Reg16) (nn : Word) (s : State) : Result State :=
  done 20 (s.memWrite16 nn (s.pair rp))

/-- `LD SP,HL` (R178). -/
def execLdSPHL (s : State) : Result State :=
  done 6 { s with sp := s.main.hl }

/-- `PUSH qq` (R180). -/
def execPushRp2 (px : Pfx) (q : Stk16) (s : State) : Result State :=
  done (11 + px.extra) (s.push16 (s.stk q))

/-- `POP qq` (R182). -/
def execPopRp2 (px : Pfx) (q : Stk16) (s : State) : Result State :=
  let (v, s1) := s.pop16
  done (10 + px.extra) (s1.setStk q v)

/-- `EX DE,HL` (R184). -/
def execExDEHL (px : Pfx) (s : State) : Result State :=
  done (4 + px.extra) ((s.setDE s.main.hl).setHL s.main.de)

/-- `EX (SP),HL` (R185). -/
def execExSPHL (s : State) : Result State :=
  let (v, s1) := s.exchangeTop s.main.hl
  done 19 (s1.setHL v)

/-- `EX AF,AF'` (R187). -/
def execExAF (px : Pfx) (s : State) : Result State :=
  done (4 + px.extra)
    { s with
      main := { s.main with a := s.shadow.a, f := s.shadow.f }
      shadow := { s.shadow with a := s.main.a, f := s.main.f } }

/-- `EXX` (R188). -/
def execExx (px : Pfx) (s : State) : Result State :=
  done (4 + px.extra)
    { s with
      main := { s.shadow with a := s.main.a, f := s.main.f }
      shadow := { s.main with a := s.shadow.a, f := s.shadow.f } }

/-- `LD IX,nn` (R171). -/
def execLdIXNN (nn : Word) (s : State) : Result State :=
  done 14 (s.setIndex .ix nn)

/-- `LD IX,(nn)` (R174). -/
def execLdIXMNN (nn : Word) (s : State) : Result State :=
  done 20 (s.setIndex .ix (s.memRead16 nn))

/-- `LD (nn),IX` (R177). -/
def execLdMNNIX (nn : Word) (s : State) : Result State :=
  done 20 (s.memWrite16 nn (s.index .ix))

/-- `LD SP,IX` (R179). -/
def execLdSPIX (s : State) : Result State :=
  done 10 { s with sp := s.index .ix }

/-- `PUSH IX` (R181). -/
def execPushIX (s : State) : Result State :=
  done 15 (s.push16 (s.index .ix))

/-- `POP IX` (R183). -/
def execPopIX (s : State) : Result State :=
  let (v, s1) := s.pop16
  done 14 (s1.setIndex .ix v)

/-- `EX (SP),IX` (R186). -/
def execExSPIX (s : State) : Result State :=
  let (v, s1) := s.exchangeTop (s.index .ix)
  done 23 (s1.setIndex .ix v)

/-- `LD IY,nn` (R171). -/
def execLdIYNN (nn : Word) (s : State) : Result State :=
  done 14 (s.setIndex .iy nn)

/-- `LD IY,(nn)` (R174). -/
def execLdIYMNN (nn : Word) (s : State) : Result State :=
  done 20 (s.setIndex .iy (s.memRead16 nn))

/-- `LD (nn),IY` (R177). -/
def execLdMNNIY (nn : Word) (s : State) : Result State :=
  done 20 (s.memWrite16 nn (s.index .iy))

/-- `LD SP,IY` (R179). -/
def execLdSPIY (s : State) : Result State :=
  done 10 { s with sp := s.index .iy }

/-- `PUSH IY` (R181). -/
def execPushIY (s : State) : Result State :=
  done 15 (s.push16 (s.index .iy))

/-- `POP IY` (R183). -/
def execPopIY (s : State) : Result State :=
  let (v, s1) := s.pop16
  done 14 (s1.setIndex .iy v)

/-- `EX (SP),IY` (R186). -/
def execExSPIY (s : State) : Result State :=
  let (v, s1) := s.exchangeTop (s.index .iy)
  done 23 (s1.setIndex .iy v)

end Sys2Proof.Machine
end

