-- ==== Sys2Proof/Machine/Load8.lean ====
section
/-! DEFINITION. The meanings of the 8-bit load group (40_load8.md). An effect runs with PC at the
following instruction (10_state.md rule R27) and says its cost. -/

namespace Sys2Proof.Machine

/-- `LD r,r'` (R140). -/
def execLdRR (px : Pfx) (dst : Reg8) (src : Reg8) (s : State) : Result State :=
  done (4 + px.extra) (s.setReg dst (s.reg src))

/-- `LD r,n` (R141). -/
def execLdRN (px : Pfx) (r : Reg8) (n : Byte) (s : State) : Result State :=
  done (7 + px.extra) (s.setReg r n)

/-- `LD r,(HL)` (R142). -/
def execLdRMHL (r : Reg8) (s : State) : Result State :=
  done 7 (s.setReg r (s.memRead s.main.hl))

/-- `LD (HL),r` (R144). -/
def execLdMHLR (r : Reg8) (s : State) : Result State :=
  done 7 (s.memWrite s.main.hl (s.reg r))

/-- `LD (HL),n` (R146). -/
def execLdMHLN (n : Byte) (s : State) : Result State :=
  done 10 (s.memWrite s.main.hl n)

/-- `LD A,(BC)` (R148). -/
def execLdABC (px : Pfx) (s : State) : Result State :=
  done (7 + px.extra) (s.setA (s.memRead s.main.bc))

/-- `LD A,(DE)` (R149). -/
def execLdADE (px : Pfx) (s : State) : Result State :=
  done (7 + px.extra) (s.setA (s.memRead s.main.de))

/-- `LD A,(nn)` (R150). -/
def execLdAMNN (px : Pfx) (nn : Word) (s : State) : Result State :=
  done (13 + px.extra) (s.setA (s.memRead nn))

/-- `LD (BC),A` (R151). -/
def execLdBCA (px : Pfx) (s : State) : Result State :=
  done (7 + px.extra) (s.memWrite s.main.bc s.main.a)

/-- `LD (DE),A` (R152). -/
def execLdDEA (px : Pfx) (s : State) : Result State :=
  done (7 + px.extra) (s.memWrite s.main.de s.main.a)

/-- `LD (nn),A` (R153). -/
def execLdMNNA (px : Pfx) (nn : Word) (s : State) : Result State :=
  done (13 + px.extra) (s.memWrite nn s.main.a)

/-- `LD A,I` (R154). -/
def execLdAI (s : State) : Result State :=
  done 9 ((s.setA s.i).setFlags (ldAirFlags s.flags s.i s.iff2))

/-- `LD A,R` (R155): R before the increment of this step. -/
def execLdAR (s : State) : Result State :=
  done 9 ((s.setA s.r).setFlags (ldAirFlags s.flags s.r s.iff2))

/-- `LD I,A` (R156). -/
def execLdIA (s : State) : Result State :=
  done 9 { s with i := s.main.a }

/-- `LD R,A` (R157): all eight bits; the increment of this step follows. -/
def execLdRA (s : State) : Result State :=
  done 9 { s with r := s.main.a }

/-- `LD r,(IX+d)` (R143). -/
def execLdRMIX (r : Reg8) (d : Byte) (s : State) : Result State :=
  done 19 (s.setReg r (s.memRead (s.indexed .ix d)))

/-- `LD (IX+d),r` (R145). -/
def execLdMIXR (r : Reg8) (d : Byte) (s : State) : Result State :=
  done 19 (s.memWrite (s.indexed .ix d) (s.reg r))

/-- `LD (IX+d),n` (R147). -/
def execLdMIXN (d : Byte) (n : Byte) (s : State) : Result State :=
  done 19 (s.memWrite (s.indexed .ix d) n)

/-- `LD p,p'` with IXH, IXL in place of H, L (R158). -/
def execLdPP (dst : XReg8) (src : XReg8) (s : State) : Result State :=
  done 8 (s.setXreg .ix dst (s.xreg .ix src))

/-- `LD IXH,n`, `LD IXL,n` (R159). -/
def execLdIXHalfN (h : Half) (n : Byte) (s : State) : Result State :=
  done 11 (s.setHalf .ix h n)

/-- `LD r,(IY+d)` (R143). -/
def execLdRMIY (r : Reg8) (d : Byte) (s : State) : Result State :=
  done 19 (s.setReg r (s.memRead (s.indexed .iy d)))

/-- `LD (IY+d),r` (R145). -/
def execLdMIYR (r : Reg8) (d : Byte) (s : State) : Result State :=
  done 19 (s.memWrite (s.indexed .iy d) (s.reg r))

/-- `LD (IY+d),n` (R147). -/
def execLdMIYN (d : Byte) (n : Byte) (s : State) : Result State :=
  done 19 (s.memWrite (s.indexed .iy d) n)

/-- `LD q,q'` with IYH, IYL in place of H, L (R158). -/
def execLdQQ (dst : XReg8) (src : XReg8) (s : State) : Result State :=
  done 8 (s.setXreg .iy dst (s.xreg .iy src))

/-- `LD IYH,n`, `LD IYL,n` (R159). -/
def execLdIYHalfN (h : Half) (n : Byte) (s : State) : Result State :=
  done 11 (s.setHalf .iy h n)

end Sys2Proof.Machine
end

