-- ==== Sys2Proof/Machine/Rotate.lean ====
section
/-! DEFINITION. The meanings of the rotate, shift and bit group (44_rotate_shift_bit.md). An effect runs with PC at the
following instruction (10_state.md rule R27) and says its cost. -/

namespace Sys2Proof.Machine

/-- An accumulator rotate (rules R261 to R264). -/
def State.rotateA (s : State) (op : Rot) : State :=
  let (a, co) := rotate op s.main.a s.flags.c
  (s.setA a).setFlags (rotAFlags s.flags a co)

/-- The byte and the flags of `rot[y]` on a memory operand (rule R266). -/
def rotated (op : Rot) (carry : Bool) (v : Byte) : Byte × Flags :=
  let (r, co) := rotate op v carry
  (r, rotFlags r co)

/-- `RLCA` (R261). -/
def execRlca (px : Pfx) (s : State) : Result State :=
  done (4 + px.extra) (s.rotateA .rlc)

/-- `RRCA` (R262). -/
def execRrca (px : Pfx) (s : State) : Result State :=
  done (4 + px.extra) (s.rotateA .rrc)

/-- `RLA` (R263). -/
def execRla (px : Pfx) (s : State) : Result State :=
  done (4 + px.extra) (s.rotateA .rl)

/-- `RRA` (R264). -/
def execRra (px : Pfx) (s : State) : Result State :=
  done (4 + px.extra) (s.rotateA .rr)

/-- `RLC r` (R266). -/
def execRlcR (r : Reg8) (s : State) : Result State :=
  let (v, co) := rotate .rlc (s.reg r) s.flags.c
  done 8 ((s.setReg r v).setFlags (rotFlags v co))

/-- `RLC (HL)` (R266). -/
def execRlcMHL (s : State) : Result State :=
  done 15 (s.modify s.main.hl (rotated .rlc s.flags.c))

/-- `RLC (IX+d)` (R266). -/
def execRlcMIX (d : Byte) (s : State) : Result State :=
  done 23 (s.modify (s.indexed .ix d) (rotated .rlc s.flags.c))

/-- `RLC (IY+d)` (R266). -/
def execRlcMIY (d : Byte) (s : State) : Result State :=
  done 23 (s.modify (s.indexed .iy d) (rotated .rlc s.flags.c))

/-- `RRC r` (R267). -/
def execRrcR (r : Reg8) (s : State) : Result State :=
  let (v, co) := rotate .rrc (s.reg r) s.flags.c
  done 8 ((s.setReg r v).setFlags (rotFlags v co))

/-- `RRC (HL)` (R267). -/
def execRrcMHL (s : State) : Result State :=
  done 15 (s.modify s.main.hl (rotated .rrc s.flags.c))

/-- `RRC (IX+d)` (R267). -/
def execRrcMIX (d : Byte) (s : State) : Result State :=
  done 23 (s.modify (s.indexed .ix d) (rotated .rrc s.flags.c))

/-- `RRC (IY+d)` (R267). -/
def execRrcMIY (d : Byte) (s : State) : Result State :=
  done 23 (s.modify (s.indexed .iy d) (rotated .rrc s.flags.c))

/-- `RL r` (R268). -/
def execRlR (r : Reg8) (s : State) : Result State :=
  let (v, co) := rotate .rl (s.reg r) s.flags.c
  done 8 ((s.setReg r v).setFlags (rotFlags v co))

/-- `RL (HL)` (R268). -/
def execRlMHL (s : State) : Result State :=
  done 15 (s.modify s.main.hl (rotated .rl s.flags.c))

/-- `RL (IX+d)` (R268). -/
def execRlMIX (d : Byte) (s : State) : Result State :=
  done 23 (s.modify (s.indexed .ix d) (rotated .rl s.flags.c))

/-- `RL (IY+d)` (R268). -/
def execRlMIY (d : Byte) (s : State) : Result State :=
  done 23 (s.modify (s.indexed .iy d) (rotated .rl s.flags.c))

/-- `RR r` (R269). -/
def execRrR (r : Reg8) (s : State) : Result State :=
  let (v, co) := rotate .rr (s.reg r) s.flags.c
  done 8 ((s.setReg r v).setFlags (rotFlags v co))

/-- `RR (HL)` (R269). -/
def execRrMHL (s : State) : Result State :=
  done 15 (s.modify s.main.hl (rotated .rr s.flags.c))

/-- `RR (IX+d)` (R269). -/
def execRrMIX (d : Byte) (s : State) : Result State :=
  done 23 (s.modify (s.indexed .ix d) (rotated .rr s.flags.c))

/-- `RR (IY+d)` (R269). -/
def execRrMIY (d : Byte) (s : State) : Result State :=
  done 23 (s.modify (s.indexed .iy d) (rotated .rr s.flags.c))

/-- `SLA r` (R270). -/
def execSlaR (r : Reg8) (s : State) : Result State :=
  let (v, co) := rotate .sla (s.reg r) s.flags.c
  done 8 ((s.setReg r v).setFlags (rotFlags v co))

/-- `SLA (HL)` (R270). -/
def execSlaMHL (s : State) : Result State :=
  done 15 (s.modify s.main.hl (rotated .sla s.flags.c))

/-- `SLA (IX+d)` (R270). -/
def execSlaMIX (d : Byte) (s : State) : Result State :=
  done 23 (s.modify (s.indexed .ix d) (rotated .sla s.flags.c))

/-- `SLA (IY+d)` (R270). -/
def execSlaMIY (d : Byte) (s : State) : Result State :=
  done 23 (s.modify (s.indexed .iy d) (rotated .sla s.flags.c))

/-- `SRA r` (R271). -/
def execSraR (r : Reg8) (s : State) : Result State :=
  let (v, co) := rotate .sra (s.reg r) s.flags.c
  done 8 ((s.setReg r v).setFlags (rotFlags v co))

/-- `SRA (HL)` (R271). -/
def execSraMHL (s : State) : Result State :=
  done 15 (s.modify s.main.hl (rotated .sra s.flags.c))

/-- `SRA (IX+d)` (R271). -/
def execSraMIX (d : Byte) (s : State) : Result State :=
  done 23 (s.modify (s.indexed .ix d) (rotated .sra s.flags.c))

/-- `SRA (IY+d)` (R271). -/
def execSraMIY (d : Byte) (s : State) : Result State :=
  done 23 (s.modify (s.indexed .iy d) (rotated .sra s.flags.c))

/-- `SLL r` (R272). -/
def execSllR (r : Reg8) (s : State) : Result State :=
  let (v, co) := rotate .sll (s.reg r) s.flags.c
  done 8 ((s.setReg r v).setFlags (rotFlags v co))

/-- `SLL (HL)` (R272). -/
def execSllMHL (s : State) : Result State :=
  done 15 (s.modify s.main.hl (rotated .sll s.flags.c))

/-- `SLL (IX+d)` (R272). -/
def execSllMIX (d : Byte) (s : State) : Result State :=
  done 23 (s.modify (s.indexed .ix d) (rotated .sll s.flags.c))

/-- `SLL (IY+d)` (R272). -/
def execSllMIY (d : Byte) (s : State) : Result State :=
  done 23 (s.modify (s.indexed .iy d) (rotated .sll s.flags.c))

/-- `SRL r` (R273). -/
def execSrlR (r : Reg8) (s : State) : Result State :=
  let (v, co) := rotate .srl (s.reg r) s.flags.c
  done 8 ((s.setReg r v).setFlags (rotFlags v co))

/-- `SRL (HL)` (R273). -/
def execSrlMHL (s : State) : Result State :=
  done 15 (s.modify s.main.hl (rotated .srl s.flags.c))

/-- `SRL (IX+d)` (R273). -/
def execSrlMIX (d : Byte) (s : State) : Result State :=
  done 23 (s.modify (s.indexed .ix d) (rotated .srl s.flags.c))

/-- `SRL (IY+d)` (R273). -/
def execSrlMIY (d : Byte) (s : State) : Result State :=
  done 23 (s.modify (s.indexed .iy d) (rotated .srl s.flags.c))

/-- `BIT b,r` (R280). -/
def execBitR (b : BitVec 3) (r : Reg8) (s : State) : Result State :=
  done 8 (s.setFlags (bitFlags s.flags b (s.reg r) (s.reg r)))

/-- `BIT b,(HL)` (R286): F.Y and F.X are free (log 7). -/
def execBitMHL (b : BitVec 3) (s : State) : Result State :=
  let v := s.memRead s.main.hl
  let (free, s1) := s.draw
  done 12 (s1.setFlags (bitFlags s.flags b v free))

/-- `RES b,r` (R291). -/
def execResR (b : BitVec 3) (r : Reg8) (s : State) : Result State :=
  done 8 (s.setReg r (s.reg r &&& ~~~bitMask b))

/-- `SET b,r` (R288). -/
def execSetR (b : BitVec 3) (r : Reg8) (s : State) : Result State :=
  done 8 (s.setReg r (s.reg r ||| bitMask b))

/-- `RES b,(HL)` (R292). -/
def execResMHL (b : BitVec 3) (s : State) : Result State :=
  done 15 (s.memWrite s.main.hl (s.memRead s.main.hl &&& ~~~bitMask b))

/-- `SET b,(HL)` (R289). -/
def execSetMHL (b : BitVec 3) (s : State) : Result State :=
  done 15 (s.memWrite s.main.hl (s.memRead s.main.hl ||| bitMask b))

/-- `RLD` (R274). -/
def execRld (s : State) : Result State :=
  let m := s.memRead s.main.hl
  let a := s.main.a.extractLsb' 4 4 ++ m.extractLsb' 4 4
  let m' := m.extractLsb' 0 4 ++ s.main.a.extractLsb' 0 4
  done 18 (((s.memWrite s.main.hl m').setA a).setFlags (digitFlags s.flags a))

/-- `RRD` (R275). -/
def execRrd (s : State) : Result State :=
  let m := s.memRead s.main.hl
  let a := s.main.a.extractLsb' 4 4 ++ m.extractLsb' 0 4
  let m' := s.main.a.extractLsb' 0 4 ++ m.extractLsb' 4 4
  done 18 (((s.memWrite s.main.hl m').setA a).setFlags (digitFlags s.flags a))

/-- `rot (IX+d),r`, result also copied to `r` (R294). -/
def execRotMIXR (rot : Rot) (d : Byte) (r : Reg8) (s : State) : Result State :=
  let (v, co) := rotate rot (s.memRead (s.indexed .ix d)) s.flags.c
  done 23 (((s.memWrite (s.indexed .ix d) v).setReg r v).setFlags (rotFlags v co))

/-- `BIT b,(IX+d)`, any `z` (R287). -/
def execBitMIX (b : BitVec 3) (d : Byte) (_z : BitVec 3) (s : State) : Result State :=
  let addr := s.indexed .ix d
  done 20 (s.setFlags (bitFlags s.flags b (s.memRead addr) (hiByte addr)))

/-- `RES b,(IX+d)` (R293). -/
def execResMIX (b : BitVec 3) (d : Byte) (s : State) : Result State :=
  let addr := s.indexed .ix d
  done 23 (s.memWrite addr (s.memRead addr &&& ~~~bitMask b))

/-- `RES b,(IX+d),r` (R294). -/
def execResMIXR (b : BitVec 3) (d : Byte) (r : Reg8) (s : State) : Result State :=
  let addr := s.indexed .ix d
  let v := s.memRead addr &&& ~~~bitMask b
  done 23 ((s.memWrite addr v).setReg r v)

/-- `SET b,(IX+d)` (R290). -/
def execSetMIX (b : BitVec 3) (d : Byte) (s : State) : Result State :=
  let addr := s.indexed .ix d
  done 23 (s.memWrite addr (s.memRead addr ||| bitMask b))

/-- `SET b,(IX+d),r` (R294). -/
def execSetMIXR (b : BitVec 3) (d : Byte) (r : Reg8) (s : State) : Result State :=
  let addr := s.indexed .ix d
  let v := s.memRead addr ||| bitMask b
  done 23 ((s.memWrite addr v).setReg r v)

/-- `rot (IY+d),r`, result also copied to `r` (R294). -/
def execRotMIYR (rot : Rot) (d : Byte) (r : Reg8) (s : State) : Result State :=
  let (v, co) := rotate rot (s.memRead (s.indexed .iy d)) s.flags.c
  done 23 (((s.memWrite (s.indexed .iy d) v).setReg r v).setFlags (rotFlags v co))

/-- `BIT b,(IY+d)`, any `z` (R287). -/
def execBitMIY (b : BitVec 3) (d : Byte) (_z : BitVec 3) (s : State) : Result State :=
  let addr := s.indexed .iy d
  done 20 (s.setFlags (bitFlags s.flags b (s.memRead addr) (hiByte addr)))

/-- `RES b,(IY+d)` (R293). -/
def execResMIY (b : BitVec 3) (d : Byte) (s : State) : Result State :=
  let addr := s.indexed .iy d
  done 23 (s.memWrite addr (s.memRead addr &&& ~~~bitMask b))

/-- `RES b,(IY+d),r` (R294). -/
def execResMIYR (b : BitVec 3) (d : Byte) (r : Reg8) (s : State) : Result State :=
  let addr := s.indexed .iy d
  let v := s.memRead addr &&& ~~~bitMask b
  done 23 ((s.memWrite addr v).setReg r v)

/-- `SET b,(IY+d)` (R290). -/
def execSetMIY (b : BitVec 3) (d : Byte) (s : State) : Result State :=
  let addr := s.indexed .iy d
  done 23 (s.memWrite addr (s.memRead addr ||| bitMask b))

/-- `SET b,(IY+d),r` (R294). -/
def execSetMIYR (b : BitVec 3) (d : Byte) (r : Reg8) (s : State) : Result State :=
  let addr := s.indexed .iy d
  let v := s.memRead addr ||| bitMask b
  done 23 ((s.memWrite addr v).setReg r v)

end Sys2Proof.Machine
end

