-- ==== Sys2Proof/Machine/Dispatch.lean ====
section
/-! DEFINITION. The one dispatch from instructions to their meanings, one arm for each constructor. -/

namespace Sys2Proof.Machine

/-- The effect of an instruction on the state in which PC is past its bytes (60_exceptions.md rule R413). -/
def exec (i : Instr) (s : State) : Host.Outcome State Fault Refusal :=
  match i with
  | .nop px => Sys2Proof.Machine.execNop px s
  | .ldRpNN px rp nn => Sys2Proof.Machine.execLdRpNN px rp nn s
  | .ldBCA px => Sys2Proof.Machine.execLdBCA px s
  | .incRp px rp => Sys2Proof.Machine.execIncRp px rp s
  | .incR px r => Sys2Proof.Machine.execIncR px r s
  | .decR px r => Sys2Proof.Machine.execDecR px r s
  | .ldRN px r n => Sys2Proof.Machine.execLdRN px r n s
  | .rlca px => Sys2Proof.Machine.execRlca px s
  | .exAF px => Sys2Proof.Machine.execExAF px s
  | .addHLRp rp => Sys2Proof.Machine.execAddHLRp rp s
  | .ldABC px => Sys2Proof.Machine.execLdABC px s
  | .decRp px rp => Sys2Proof.Machine.execDecRp px rp s
  | .rrca px => Sys2Proof.Machine.execRrca px s
  | .djnz px e => Sys2Proof.Machine.execDjnz px e s
  | .ldDEA px => Sys2Proof.Machine.execLdDEA px s
  | .rla px => Sys2Proof.Machine.execRla px s
  | .jr px e => Sys2Proof.Machine.execJr px e s
  | .ldADE px => Sys2Proof.Machine.execLdADE px s
  | .rra px => Sys2Proof.Machine.execRra px s
  | .jrCC px cc e => Sys2Proof.Machine.execJrCC px cc e s
  | .ldMNNHL nn => Sys2Proof.Machine.execLdMNNHL nn s
  | .daa px => Sys2Proof.Machine.execDaa px s
  | .ldHLMNN nn => Sys2Proof.Machine.execLdHLMNN nn s
  | .cpl px => Sys2Proof.Machine.execCpl px s
  | .ldMNNA px nn => Sys2Proof.Machine.execLdMNNA px nn s
  | .incMHL => Sys2Proof.Machine.execIncMHL s
  | .decMHL => Sys2Proof.Machine.execDecMHL s
  | .ldMHLN n => Sys2Proof.Machine.execLdMHLN n s
  | .scf px => Sys2Proof.Machine.execScf px s
  | .ldAMNN px nn => Sys2Proof.Machine.execLdAMNN px nn s
  | .ccf px => Sys2Proof.Machine.execCcf px s
  | .ldRR px dst src => Sys2Proof.Machine.execLdRR px dst src s
  | .ldRMHL r => Sys2Proof.Machine.execLdRMHL r s
  | .ldMHLR r => Sys2Proof.Machine.execLdMHLR r s
  | .halt px => Sys2Proof.Machine.execHalt px s
  | .addR px r => Sys2Proof.Machine.execAddR px r s
  | .addMHL => Sys2Proof.Machine.execAddMHL s
  | .adcR px r => Sys2Proof.Machine.execAdcR px r s
  | .adcMHL => Sys2Proof.Machine.execAdcMHL s
  | .subR px r => Sys2Proof.Machine.execSubR px r s
  | .subMHL => Sys2Proof.Machine.execSubMHL s
  | .sbcR px r => Sys2Proof.Machine.execSbcR px r s
  | .sbcMHL => Sys2Proof.Machine.execSbcMHL s
  | .andR px r => Sys2Proof.Machine.execAndR px r s
  | .andMHL => Sys2Proof.Machine.execAndMHL s
  | .xorR px r => Sys2Proof.Machine.execXorR px r s
  | .xorMHL => Sys2Proof.Machine.execXorMHL s
  | .orR px r => Sys2Proof.Machine.execOrR px r s
  | .orMHL => Sys2Proof.Machine.execOrMHL s
  | .cpR px r => Sys2Proof.Machine.execCpR px r s
  | .cpMHL => Sys2Proof.Machine.execCpMHL s
  | .retCC px cc => Sys2Proof.Machine.execRetCC px cc s
  | .popRp2 px q => Sys2Proof.Machine.execPopRp2 px q s
  | .jpCC px cc nn => Sys2Proof.Machine.execJpCC px cc nn s
  | .jp px nn => Sys2Proof.Machine.execJp px nn s
  | .callCC px cc nn => Sys2Proof.Machine.execCallCC px cc nn s
  | .pushRp2 px q => Sys2Proof.Machine.execPushRp2 px q s
  | .addN px n => Sys2Proof.Machine.execAddN px n s
  | .adcN px n => Sys2Proof.Machine.execAdcN px n s
  | .subN px n => Sys2Proof.Machine.execSubN px n s
  | .sbcN px n => Sys2Proof.Machine.execSbcN px n s
  | .andN px n => Sys2Proof.Machine.execAndN px n s
  | .xorN px n => Sys2Proof.Machine.execXorN px n s
  | .orN px n => Sys2Proof.Machine.execOrN px n s
  | .cpN px n => Sys2Proof.Machine.execCpN px n s
  | .rst px y => Sys2Proof.Machine.execRst px y s
  | .ret px => Sys2Proof.Machine.execRet px s
  | .call px nn => Sys2Proof.Machine.execCall px nn s
  | .outNA px n => Sys2Proof.Machine.execOutNA px n s
  | .exx px => Sys2Proof.Machine.execExx px s
  | .inAN px n => Sys2Proof.Machine.execInAN px n s
  | .exSPHL => Sys2Proof.Machine.execExSPHL s
  | .jpHL => Sys2Proof.Machine.execJpHL s
  | .exDEHL px => Sys2Proof.Machine.execExDEHL px s
  | .di px => Sys2Proof.Machine.execDi px s
  | .ldSPHL => Sys2Proof.Machine.execLdSPHL s
  | .ei px => Sys2Proof.Machine.execEi px s
  | .rlcR r => Sys2Proof.Machine.execRlcR r s
  | .rlcMHL => Sys2Proof.Machine.execRlcMHL s
  | .rrcR r => Sys2Proof.Machine.execRrcR r s
  | .rrcMHL => Sys2Proof.Machine.execRrcMHL s
  | .rlR r => Sys2Proof.Machine.execRlR r s
  | .rlMHL => Sys2Proof.Machine.execRlMHL s
  | .rrR r => Sys2Proof.Machine.execRrR r s
  | .rrMHL => Sys2Proof.Machine.execRrMHL s
  | .slaR r => Sys2Proof.Machine.execSlaR r s
  | .slaMHL => Sys2Proof.Machine.execSlaMHL s
  | .sraR r => Sys2Proof.Machine.execSraR r s
  | .sraMHL => Sys2Proof.Machine.execSraMHL s
  | .sllR r => Sys2Proof.Machine.execSllR r s
  | .sllMHL => Sys2Proof.Machine.execSllMHL s
  | .srlR r => Sys2Proof.Machine.execSrlR r s
  | .srlMHL => Sys2Proof.Machine.execSrlMHL s
  | .bitR b r => Sys2Proof.Machine.execBitR b r s
  | .bitMHL b => Sys2Proof.Machine.execBitMHL b s
  | .resR b r => Sys2Proof.Machine.execResR b r s
  | .resMHL b => Sys2Proof.Machine.execResMHL b s
  | .setR b r => Sys2Proof.Machine.execSetR b r s
  | .setMHL b => Sys2Proof.Machine.execSetMHL b s
  | .undefinedED op => Sys2Proof.Machine.execUndefinedED op s
  | .inRC r => Sys2Proof.Machine.execInRC r s
  | .outCR r => Sys2Proof.Machine.execOutCR r s
  | .sbcHLRp rp => Sys2Proof.Machine.execSbcHLRp rp s
  | .ldMNNRp rp nn => Sys2Proof.Machine.execLdMNNRp rp nn s
  | .neg => Sys2Proof.Machine.execNeg s
  | .retn => Sys2Proof.Machine.execRetn s
  | .im0 => Sys2Proof.Machine.execIm0 s
  | .ldIA => Sys2Proof.Machine.execLdIA s
  | .adcHLRp rp => Sys2Proof.Machine.execAdcHLRp rp s
  | .ldRpMNN rp nn => Sys2Proof.Machine.execLdRpMNN rp nn s
  | .negDup y => Sys2Proof.Machine.execNegDup y s
  | .reti => Sys2Proof.Machine.execReti s
  | .im0Dup y => Sys2Proof.Machine.execIm0Dup y s
  | .ldRA => Sys2Proof.Machine.execLdRA s
  | .retnDup y => Sys2Proof.Machine.execRetnDup y s
  | .im1 => Sys2Proof.Machine.execIm1 s
  | .ldAI => Sys2Proof.Machine.execLdAI s
  | .im2 => Sys2Proof.Machine.execIm2 s
  | .ldAR => Sys2Proof.Machine.execLdAR s
  | .rrd => Sys2Proof.Machine.execRrd s
  | .rld => Sys2Proof.Machine.execRld s
  | .inC => Sys2Proof.Machine.execInC s
  | .outC0 => Sys2Proof.Machine.execOutC0 s
  | .im1Dup => Sys2Proof.Machine.execIm1Dup s
  | .nopED y => Sys2Proof.Machine.execNopED y s
  | .im2Dup => Sys2Proof.Machine.execIm2Dup s
  | .ldi => Sys2Proof.Machine.execLdi s
  | .cpi => Sys2Proof.Machine.execCpi s
  | .ini => Sys2Proof.Machine.execIni s
  | .outi => Sys2Proof.Machine.execOuti s
  | .ldd => Sys2Proof.Machine.execLdd s
  | .cpd => Sys2Proof.Machine.execCpd s
  | .ind => Sys2Proof.Machine.execInd s
  | .outd => Sys2Proof.Machine.execOutd s
  | .ldir => Sys2Proof.Machine.execLdir s
  | .cpir => Sys2Proof.Machine.execCpir s
  | .inir => Sys2Proof.Machine.execInir s
  | .otir => Sys2Proof.Machine.execOtir s
  | .lddr => Sys2Proof.Machine.execLddr s
  | .cpdr => Sys2Proof.Machine.execCpdr s
  | .indr => Sys2Proof.Machine.execIndr s
  | .otdr => Sys2Proof.Machine.execOtdr s
  | .addIXRp rp => Sys2Proof.Machine.execAddIXRp rp s
  | .ldIXNN nn => Sys2Proof.Machine.execLdIXNN nn s
  | .ldMNNIX nn => Sys2Proof.Machine.execLdMNNIX nn s
  | .incIX => Sys2Proof.Machine.execIncIX s
  | .incIXHalf h => Sys2Proof.Machine.execIncIXHalf h s
  | .decIXHalf h => Sys2Proof.Machine.execDecIXHalf h s
  | .ldIXHalfN h n => Sys2Proof.Machine.execLdIXHalfN h n s
  | .ldIXMNN nn => Sys2Proof.Machine.execLdIXMNN nn s
  | .decIX => Sys2Proof.Machine.execDecIX s
  | .incMIX d => Sys2Proof.Machine.execIncMIX d s
  | .decMIX d => Sys2Proof.Machine.execDecMIX d s
  | .ldMIXN d n => Sys2Proof.Machine.execLdMIXN d n s
  | .ldPP dst src => Sys2Proof.Machine.execLdPP dst src s
  | .ldRMIX r d => Sys2Proof.Machine.execLdRMIX r d s
  | .ldMIXR r d => Sys2Proof.Machine.execLdMIXR r d s
  | .addIXHalf h => Sys2Proof.Machine.execAddIXHalf h s
  | .addMIX d => Sys2Proof.Machine.execAddMIX d s
  | .adcIXHalf h => Sys2Proof.Machine.execAdcIXHalf h s
  | .adcMIX d => Sys2Proof.Machine.execAdcMIX d s
  | .subIXHalf h => Sys2Proof.Machine.execSubIXHalf h s
  | .subMIX d => Sys2Proof.Machine.execSubMIX d s
  | .sbcIXHalf h => Sys2Proof.Machine.execSbcIXHalf h s
  | .sbcMIX d => Sys2Proof.Machine.execSbcMIX d s
  | .andIXHalf h => Sys2Proof.Machine.execAndIXHalf h s
  | .andMIX d => Sys2Proof.Machine.execAndMIX d s
  | .xorIXHalf h => Sys2Proof.Machine.execXorIXHalf h s
  | .xorMIX d => Sys2Proof.Machine.execXorMIX d s
  | .orIXHalf h => Sys2Proof.Machine.execOrIXHalf h s
  | .orMIX d => Sys2Proof.Machine.execOrMIX d s
  | .cpIXHalf h => Sys2Proof.Machine.execCpIXHalf h s
  | .cpMIX d => Sys2Proof.Machine.execCpMIX d s
  | .prefixNop first second => Sys2Proof.Machine.execPrefixNop first second s
  | .prefixBeforeED first => Sys2Proof.Machine.execPrefixBeforeED first s
  | .popIX => Sys2Proof.Machine.execPopIX s
  | .exSPIX => Sys2Proof.Machine.execExSPIX s
  | .pushIX => Sys2Proof.Machine.execPushIX s
  | .jpIX => Sys2Proof.Machine.execJpIX s
  | .ldSPIX => Sys2Proof.Machine.execLdSPIX s
  | .rotMIXR rot d r => Sys2Proof.Machine.execRotMIXR rot d r s
  | .rlcMIX d => Sys2Proof.Machine.execRlcMIX d s
  | .rrcMIX d => Sys2Proof.Machine.execRrcMIX d s
  | .rlMIX d => Sys2Proof.Machine.execRlMIX d s
  | .rrMIX d => Sys2Proof.Machine.execRrMIX d s
  | .slaMIX d => Sys2Proof.Machine.execSlaMIX d s
  | .sraMIX d => Sys2Proof.Machine.execSraMIX d s
  | .sllMIX d => Sys2Proof.Machine.execSllMIX d s
  | .srlMIX d => Sys2Proof.Machine.execSrlMIX d s
  | .bitMIX b d z => Sys2Proof.Machine.execBitMIX b d z s
  | .resMIXR b d r => Sys2Proof.Machine.execResMIXR b d r s
  | .resMIX b d => Sys2Proof.Machine.execResMIX b d s
  | .setMIXR b d r => Sys2Proof.Machine.execSetMIXR b d r s
  | .setMIX b d => Sys2Proof.Machine.execSetMIX b d s
  | .addIYRp rp => Sys2Proof.Machine.execAddIYRp rp s
  | .ldIYNN nn => Sys2Proof.Machine.execLdIYNN nn s
  | .ldMNNIY nn => Sys2Proof.Machine.execLdMNNIY nn s
  | .incIY => Sys2Proof.Machine.execIncIY s
  | .incIYHalf h => Sys2Proof.Machine.execIncIYHalf h s
  | .decIYHalf h => Sys2Proof.Machine.execDecIYHalf h s
  | .ldIYHalfN h n => Sys2Proof.Machine.execLdIYHalfN h n s
  | .ldIYMNN nn => Sys2Proof.Machine.execLdIYMNN nn s
  | .decIY => Sys2Proof.Machine.execDecIY s
  | .incMIY d => Sys2Proof.Machine.execIncMIY d s
  | .decMIY d => Sys2Proof.Machine.execDecMIY d s
  | .ldMIYN d n => Sys2Proof.Machine.execLdMIYN d n s
  | .ldQQ dst src => Sys2Proof.Machine.execLdQQ dst src s
  | .ldRMIY r d => Sys2Proof.Machine.execLdRMIY r d s
  | .ldMIYR r d => Sys2Proof.Machine.execLdMIYR r d s
  | .addIYHalf h => Sys2Proof.Machine.execAddIYHalf h s
  | .addMIY d => Sys2Proof.Machine.execAddMIY d s
  | .adcIYHalf h => Sys2Proof.Machine.execAdcIYHalf h s
  | .adcMIY d => Sys2Proof.Machine.execAdcMIY d s
  | .subIYHalf h => Sys2Proof.Machine.execSubIYHalf h s
  | .subMIY d => Sys2Proof.Machine.execSubMIY d s
  | .sbcIYHalf h => Sys2Proof.Machine.execSbcIYHalf h s
  | .sbcMIY d => Sys2Proof.Machine.execSbcMIY d s
  | .andIYHalf h => Sys2Proof.Machine.execAndIYHalf h s
  | .andMIY d => Sys2Proof.Machine.execAndMIY d s
  | .xorIYHalf h => Sys2Proof.Machine.execXorIYHalf h s
  | .xorMIY d => Sys2Proof.Machine.execXorMIY d s
  | .orIYHalf h => Sys2Proof.Machine.execOrIYHalf h s
  | .orMIY d => Sys2Proof.Machine.execOrMIY d s
  | .cpIYHalf h => Sys2Proof.Machine.execCpIYHalf h s
  | .cpMIY d => Sys2Proof.Machine.execCpMIY d s
  | .popIY => Sys2Proof.Machine.execPopIY s
  | .exSPIY => Sys2Proof.Machine.execExSPIY s
  | .pushIY => Sys2Proof.Machine.execPushIY s
  | .jpIY => Sys2Proof.Machine.execJpIY s
  | .ldSPIY => Sys2Proof.Machine.execLdSPIY s
  | .rotMIYR rot d r => Sys2Proof.Machine.execRotMIYR rot d r s
  | .rlcMIY d => Sys2Proof.Machine.execRlcMIY d s
  | .rrcMIY d => Sys2Proof.Machine.execRrcMIY d s
  | .rlMIY d => Sys2Proof.Machine.execRlMIY d s
  | .rrMIY d => Sys2Proof.Machine.execRrMIY d s
  | .slaMIY d => Sys2Proof.Machine.execSlaMIY d s
  | .sraMIY d => Sys2Proof.Machine.execSraMIY d s
  | .sllMIY d => Sys2Proof.Machine.execSllMIY d s
  | .srlMIY d => Sys2Proof.Machine.execSrlMIY d s
  | .bitMIY b d z => Sys2Proof.Machine.execBitMIY b d z s
  | .resMIYR b d r => Sys2Proof.Machine.execResMIYR b d r s
  | .resMIY b d => Sys2Proof.Machine.execResMIY b d s
  | .setMIYR b d r => Sys2Proof.Machine.execSetMIYR b d r s
  | .setMIY b d => Sys2Proof.Machine.execSetMIY b d s

end Sys2Proof.Machine
end

