-- ==== Sys2Proof/Machine/Run.lean ====
section
/-! DEFINITION. One step of the processor and one machine step (60_exceptions.md rules R410 to R413). -/

namespace Sys2Proof.Machine

/-- `ExecuteOne` (rule R413): one instruction is fetched and its effect runs; the pending enable sampled before it lands
after it, and R counts the step. -/
def State.executeOne (s : State) : Result State :=
  let i := s.fetch
  match exec i (s.beginInstr i.size) with
  | .next t => .next (t.endInstr s.eiPending)
  | .fault r => .fault r
  | .refused r => .refused r

/-- `Step` (rule R411): accept an interrupt, else idle if halted, else execute one instruction. The state's `cost` is
the T-state count returned. -/
def State.cpuStep (s : State) : Result State :=
  if s.nmiCond then .next s.acceptNmi
  else if s.intCond then .next s.acceptInt
  else if s.halted then .next s.haltedIdle
  else s.executeOne

/-- `MachineStep` (rule R410): a Step, and then the PSG and the VDP are given its T-states. -/
def State.machineStep (s : State) : Result State :=
  match s.cpuStep with
  | .next t => .next t.updateDevices
  | .fault r => .fault r
  | .refused r => .refused r

end Sys2Proof.Machine
end

