-- ==== Sys2Proof/Machine/Step.lean ====
section
/-! DEFINITION. The step of the host's interface, and how a program word comes to stand where the step fetches. -/

namespace Sys2Proof.Machine

/-- One step of this model is one machine step (60_exceptions.md rule R410; DESIGN CHOICE, log 12). -/
def step (s : State) : Host.Outcome State Fault Refusal := s.machineStep

/-- `s` with the instruction whose bits are `w`, the bits above `nbits` zero, stored at PC, so that `step` fetches and
runs it (log 15). -/
def State.withFetchWord (s : State) (nbits w : Nat) : State :=
  s.placeInstr (tableByte nbits w 0) (tableByte nbits w 1) (tableByte nbits w 2) (tableByte nbits w 3)

end Sys2Proof.Machine
end

