-- ==== Sys2Proof/Machine/Boot.lean ====
section
/-! DEFINITION. The host's moves other than the machine step (60_exceptions.md rule R516): constructing the machine from
an image (70_reset_and_hazards.md rules R520, R521), setting the buttons, pressing pause. They are functions of their
own: no step performs them (log 12). -/

namespace Sys2Proof.Machine

/-- The image without its header: 512 leading bytes are dropped when the length is 512 more than a multiple of a page
(rules R70, R520). -/
def stripImage (image : List Byte) : List Byte :=
  if image.length % 0x4000 = 512 then image.drop 512 else image

/-- The values the spec leaves unspecified at construction (rules R38, R521): a draw. -/
structure PowerUp where
  main : RegSet
  shadow : RegSet
  ix : Word
  iy : Word
  sp : Word
  sysRam : Memory
  cartRam : Memory
  vram : Memory
  cram : Vector (BitVec 6) 32
  fb : FrameBuffer
  deriving DecidableEq, Repr

/-- The draw that `State.reset` makes (logs 1 and 3). -/
def PowerUp.zero : PowerUp where
  main := RegSet.reset
  shadow := RegSet.reset
  ix := 0#16
  iy := 0#16
  sp := 0#16
  sysRam := []
  cartRam := []
  vram := []
  cram := Vector.replicate 32 0#6
  fb := []

/-- The machine with the drawn values, every other piece of state as `State.reset` has it (rule R521). -/
def PowerUp.apply (d : PowerUp) (c : Config) : State :=
  { State.reset with
    main := d.main
    shadow := d.shadow
    ix := d.ix
    iy := d.iy
    sp := d.sp
    bus := { Bus.reset with sysRam := d.sysRam, cartRam := d.cartRam }
    vdp := { Vdp.reset with vram := d.vram, cram := d.cram, fb := d.fb }
    cfg := c }

/-- `Construct(image)` with the parameters `c` and the draw `d` (rules R70, R520, R521): the machine, or no machine for
an image whose stripped length is no positive multiple of a page. -/
def construct (image : List Byte) (c : Config) (d : PowerUp) : Result State :=
  let rom := stripImage image
  if rom.length = 0 ∨ rom.length % 0x4000 ≠ 0 then .refused .cartridgeRejected
  else
    let s := d.apply c
    .next { s with bus := { s.bus with rom := Memory.ofBytes .rom 0 rom, pageCount := rom.length / 0x4000 } }

/-- The two controller ports (20_memory.md rule R82). -/
inductive Pad
  | first
  | second
  deriving DecidableEq, Repr

/-- The port of a controller. -/
def Pad.port : Pad → Nat
  | .first => 0xDC
  | .second => 0xDD

/-- Set buttons (rule R516): `LATCH[port] <- v`. -/
def State.setButtons (s : State) (pad : Pad) (v : Byte) : State :=
  { s with bus := { s.bus with latch := Memory.write .latch s.bus.latch pad.port v } }

/-- Press pause (rule R516): `NMI_REQ <- 1`. -/
def State.pressPause (s : State) : State := { s with nmiReq := true }

end Sys2Proof.Machine
end

