-- ==== Sys2Proof/Safety.lean ====
section
/-! DEFINITION. What a legal state is: the bounds that the spec puts on the pieces of state (00_scope.md rule R6,
20_memory.md rules R61 and R70, 60_exceptions.md rules R450, R463, R464, R500) and the canonical form of the stores. And
the terms in which the statements say what changes and what does not: the pieces of state by name, a store of one or two
bytes seen through loads and reads, the eight bits of F. -/

namespace Sys2Proof.Machine

/-- The stores of the bus are in canonical form and inside their sizes; there is at least one ROM page (rules R61,
R70). -/
def Bus.wf (b : Bus) : Bool :=
  decide (0 < b.pageCount) && Memory.wf .rom (b.pageCount * 0x4000) b.rom &&
    Memory.wf .cartRam 0x8000 b.cartRam && Memory.wf .sysRam 0x2000 b.sysRam && Memory.wf .latch 0x100 b.latch

/-- The listed lines stand in rising order from `lo`, all inside the picture, each of 256 pixels and no blank line (rules
R450, R470). -/
def FrameBuffer.wfFrom (height : Nat) : Nat → FrameBuffer → Bool
  | _, [] => true
  | lo, (k, px) :: fb =>
    decide (lo ≤ k) && decide (k < height) && decide (px.length = 256) && decide (px ≠ blankLine) &&
      FrameBuffer.wfFrom height (k + 1) fb

/-- The bounds of the VDP's state (rule R450). -/
def Vdp.wf (c : Config) (v : Vdp) : Bool :=
  Memory.wf .vram 0x4000 v.vram && decide (v.hc < c.cyclesPerLine) && decide (v.line < c.linesPerFrame) &&
    FrameBuffer.wfFrom c.activeHeight 0 v.fb

/-- The bounds of the PSG's state (rules R500, R505, R508, R509): the noise register is never all zeros,
and the samples are numbers of the format. -/
def Psg.wf (c : Config) (p : Psg) : Bool :=
  decide (p.acc < c.psgCyclesPerSample) && decide (p.lfsr ≠ 0#15) && decide (p.wr < c.psgOutLength) &&
    decide (p.out.length ≤ c.psgOutLength) && decide (p.wr ≤ p.out.length) && p.out.all (Sample.fits c.psgFloatBits)

/-- The bounds of the model's record of notifications (rule R510). -/
def Notices.wf (c : Config) (k : Notices) : Bool := decide (k.sinceReady < c.psgReadySamples)

/-- A legal state of the machine. -/
def State.wf (s : State) : Bool :=
  s.cfg.wf && s.bus.wf && s.vdp.wf s.cfg && s.psg.wf s.cfg && s.notices.wf s.cfg

/-! What changes and what does not. -/

/-- The pieces of state by name. `cost`, the number a Step returns, is none of them. -/
inductive Part
  | a
  | f
  | b
  | c
  | d
  | e
  | h
  | l
  | shadow
  | ix
  | iy
  | sp
  | pc
  | i
  | r
  | iff1
  | iff2
  | im
  | halted
  | eiPending
  | nmiReq
  | bus
  | vdp
  | psg
  | cfg
  | draws
  | notices
  deriving DecidableEq, Repr

/-- A piece of state is the same in `t` as in `s`. -/
def State.agrees (s t : State) : Part → Prop
  | .a => t.main.a = s.main.a
  | .f => t.main.f = s.main.f
  | .b => t.main.b = s.main.b
  | .c => t.main.c = s.main.c
  | .d => t.main.d = s.main.d
  | .e => t.main.e = s.main.e
  | .h => t.main.h = s.main.h
  | .l => t.main.l = s.main.l
  | .shadow => t.shadow = s.shadow
  | .ix => t.ix = s.ix
  | .iy => t.iy = s.iy
  | .sp => t.sp = s.sp
  | .pc => t.pc = s.pc
  | .i => t.i = s.i
  | .r => t.r = s.r
  | .iff1 => t.iff1 = s.iff1
  | .iff2 => t.iff2 = s.iff2
  | .im => t.im = s.im
  | .halted => t.halted = s.halted
  | .eiPending => t.eiPending = s.eiPending
  | .nmiReq => t.nmiReq = s.nmiReq
  | .bus => t.bus = s.bus
  | .vdp => t.vdp = s.vdp
  | .psg => t.psg = s.psg
  | .cfg => t.cfg = s.cfg
  | .draws => t.draws = s.draws
  | .notices => t.notices = s.notices

/-- Every piece of state but those named is the same in `t` as in `s`; in particular, unless the bus is named, every
address reads as before. -/
def State.changesOnly (s t : State) (ps : List Part) : Prop :=
  (∀ p, p ∉ ps → s.agrees t p) ∧ (Part.bus ∉ ps → ∀ a, t.memRead a = s.memRead a)

/-- The piece of state that a register operand names. -/
def regPart : Reg8 → Part
  | .b => .b
  | .c => .c
  | .d => .d
  | .e => .e
  | .h => .h
  | .l => .l
  | .a => .a

/-- The piece of state that an operand of rule R158 names. -/
def xregPart (x : Idx) : XReg8 → Part
  | .b => .b
  | .c => .c
  | .d => .d
  | .e => .e
  | .xh | .xl => match x with
    | .ix => .ix
    | .iy => .iy
  | .a => .a

/-- The pieces of state that a pair operand names (10_state.md rule R22). -/
def pairParts : Reg16 → List Part
  | .bc => [.b, .c]
  | .de => [.d, .e]
  | .hl => [.h, .l]
  | .sp => [.sp]

/-- The pieces of state that a stack operand names. -/
def stkParts : Stk16 → List Part
  | .bc => [.b, .c]
  | .de => [.d, .e]
  | .hl => [.h, .l]
  | .af => [.a, .f]

/-- The piece of state of an index register. -/
def idxPart : Idx → Part
  | .ix => .ix
  | .iy => .iy

/-- The addresses that a write changes (20_memory.md rule R63): RAM, the control bytes, and the third frame while it maps
cartridge RAM. -/
def Bus.writable (b : Bus) (addr : Word) : Bool :=
  decide (0xC000 ≤ addr.toNat) || (decide (0x8000 ≤ addr.toNat) && b.ramEnabled)

/-- From `b` to `b'` memory changes at most at the cells that the addresses `as` select: every other cell holds what it
held, and unless one of them is a control byte every address that selects no such cell reads as before. The latches and
the number of ROM pages are the same. -/
def Bus.keepsOutside (b b' : Bus) (as : List Word) : Prop :=
  b'.pageCount = b.pageCount ∧ b'.latch = b.latch ∧
    (∀ l, (∀ a ∈ as, l ≠ b.locate a) → b'.load l = b.load l) ∧
    ((∀ a ∈ as, a.toNat < 0xFFFC) → ∀ x, (∀ a ∈ as, b.locate x ≠ b.locate a) → b'.read x = b.read x)

/-- The cell that `a` selects in `b` holds `v` in `b'`, or what it held where a write has no effect (rule R63). -/
def Bus.holds (b b' : Bus) (a : Word) (v : Byte) : Prop :=
  b'.load (b.locate a) = if b.writable a then v else b.load (b.locate a)

/-- `b'` is `b` after the byte `v` is stored at `a`, and nothing else. -/
def Bus.storesByte (b b' : Bus) (a : Word) (v : Byte) : Prop := b.keepsOutside b' [a] ∧ b.holds b' a v

/-- `b'` is `b` after the 16-bit value `{hi, lo}` is stored at `a` (rule R74), and nothing else. -/
def Bus.storesWord (b b' : Bus) (a : Word) (hi lo : Byte) : Prop :=
  b.keepsOutside b' [a, a + 1#16] ∧ b.holds b' a lo ∧ b.holds b' (a + 1#16) hi

/-- The eight bits of F, from bit 7 to bit 0 (10_state.md rule R24). -/
def flagBits (f : Byte) (sf zf yf hf xf pvf nf cf : Bool) : Prop :=
  f.getLsbD 7 = sf ∧ f.getLsbD 6 = zf ∧ f.getLsbD 5 = yf ∧ f.getLsbD 4 = hf ∧
    f.getLsbD 3 = xf ∧ f.getLsbD 2 = pvf ∧ f.getLsbD 1 = nf ∧ f.getLsbD 0 = cf

/-- The number of 1 bits of a byte. -/
def ones (v : Byte) : Nat :=
  (v.getLsbD 0).toNat + (v.getLsbD 1).toNat + (v.getLsbD 2).toNat + (v.getLsbD 3).toNat +
    (v.getLsbD 4).toNat + (v.getLsbD 5).toNat + (v.getLsbD 6).toNat + (v.getLsbD 7).toNat

/-- The result of `rot[y]` on the number `v` with the carry `c`, 0 or 1, in arithmetic (44_rotate_shift_bit.md rule
R260). -/
def shiftedNat (op : Rot) (v c : Nat) : Nat :=
  match op with
  | .rlc => 2 * v % 256 + v / 128
  | .rrc => v / 2 + 128 * (v % 2)
  | .rl => 2 * v % 256 + c
  | .rr => v / 2 + 128 * c
  | .sla => 2 * v % 256
  | .sra => v / 2 + 128 * (v / 128)
  | .sll => 2 * v % 256 + 1
  | .srl => v / 2

/-- The carry out of `rot[y]` (rule R260): bit 7 of a left shift, bit 0 of a right shift. -/
def shiftedOut (op : Rot) (v : Nat) : Bool :=
  match op with
  | .rlc | .rl | .sla | .sll => decide (128 ≤ v)
  | .rrc | .rr | .sra | .srl => decide (v % 2 = 1)

end Sys2Proof.Machine
end

