-- ==== Sys2Proof/Certificates/Slice0/Obligations.lean ====
section
/-! DEFINITION. The statements for the provers, from the numbered rules of spec/. A statement about `exec` speaks of the
state in which an instruction's effect runs: PC is already past its bytes (10_state.md rule R27). `State.changesOnly`
is the frame. The spec marks its instruction rules, and most rules about interrupts, the VDP and the PSG, as general
knowledge that is not in its source, or as decisions of its own; the statements that rest on those have basis `derived`
in OBLIGATIONS.json. -/

open Sys2Proof Sys2Proof.Machine

/-! Encoding (30_encoding.md). -/

/-- Decoding the bytes of any well-formed instruction gives it back, every operand included, and the bytes after it. -/
def Obligations.DecodeOfEncode : Prop :=
  ∀ (i : Instr) (rest : List Byte), i.wf = true → decode (encode i ++ rest) = .ok (i, rest)

/-- Any four bytes decode, to a well-formed instruction whose encoding is what the four bytes begin with (rule R121). -/
def Obligations.EncodeOfDecode : Prop :=
  ∀ b0 b1 b2 b3 : Byte,
    (decode4 b0 b1 b2 b3).wf = true ∧ encode (decode4 b0 b1 b2 b3) <+: [b0, b1, b2, b3]

/-- Words written out from the spec's encodings, at least one of each of the seven opcode spaces, stand for the
instructions named. -/
def Obligations.DecodeWrittenWords : Prop :=
  decodeTableWord 8 0x78 = some (.ldRR .none .a .b) ∧
  decodeTableWord 24 0xDFF031 = some (.ldRpNN .none .sp 0xDFF0#16) ∧
  decodeTableWord 16 0x1020 = some (.jrCC .none .nz 0x10#8) ∧
  decodeTableWord 16 0x7FCB = some (.bitR 7#3 .a) ∧
  decodeTableWord 32 0xC07BED = some (.ldRpMNN .sp 0x00C0#16) ∧
  decodeTableWord 16 0xB0ED = some .ldir ∧
  decodeTableWord 16 0x00ED = some (.undefinedED 0x00#8) ∧
  decodeTableWord 24 0x0546DD = some (.ldRMIX .b 0x05#8) ∧
  decodeTableWord 32 0xAA0136DD = some (.ldMIXN 0x01#8 0xAA#8) ∧
  decodeTableWord 16 0x65DD = some (.ldPP .xh .xl) ∧
  decodeTableWord 24 0x053EDD = some (.ldRN .dd .a 0x05#8) ∧
  decodeTableWord 24 0x1226FD = some (.ldIYHalfN .high 0x12#8) ∧
  decodeTableWord 32 0x0001CBDD = some (.rotMIXR .rlc 0x01#8 .b) ∧
  decodeTableWord 32 0x86FFCBFD = some (.resMIY 0#3 0xFF#8) ∧
  decodeTableWord 16 0xFDDD = some (.prefixNop .ix .iy)

/-! Steps and interrupts (60_exceptions.md). -/

/-- With no interrupt to accept and not halted, a step is `exec` of the instruction that the bytes at PC decode to, on
the state with PC past it and EI_PENDING cleared; then a pending enable lands, R counts, and the devices advance. -/
def Obligations.StepRunsDecoded : Prop :=
  ∀ (s t : State) (i : Instr) (rest : List Byte),
    s.nmiCond = false → s.intCond = false → s.halted = false →
    decode [s.memRead s.pc, s.memRead (s.pc + 1#16), s.memRead (s.pc + 2#16), s.memRead (s.pc + 3#16)] = .ok (i, rest) →
    exec i { s with eiPending := false, pc := s.pc + BitVec.ofNat 16 i.size } = .next t →
    step s = .next
      ({ t with
          iff1 := t.iff1 || s.eiPending
          iff2 := t.iff2 || s.eiPending
          r := t.r.extractLsb' 7 1 ++ (t.r.extractLsb' 0 7 + 1#7) }).updateDevices

/-- No step ever stops (70_reset_and_hazards.md rule R540, 60_exceptions.md rule R414). -/
def Obligations.StepNeverStops : Prop := ∀ s : State, ∃ t, step s = .next t

/-- Non-maskable acceptance (rule R416), under the condition of rule R415. -/
def Obligations.NmiAcceptance : Prop :=
  ∀ s : State, s.nmiReq = true →
    (s.cfg.pauseSampleLine = none ∨ s.cfg.pauseSampleLine = some s.vCounter) →
    ∃ t, step s = .next t.updateDevices ∧ t.cost = 11 ∧ t.nmiReq = false ∧ t.halted = false ∧ t.eiPending = false ∧
      t.iff2 = s.iff1 ∧ t.iff1 = false ∧ t.sp = s.sp - 2#16 ∧ t.pc = 0x0066#16 ∧
      s.bus.storesWord t.bus (s.sp - 2#16) (hiByte s.pc) (loByte s.pc) ∧
      s.changesOnly t [.nmiReq, .halted, .eiPending, .iff1, .iff2, .sp, .pc, .bus]

/-- Maskable acceptance in all three modes (rule R417), under the condition of rule R415. -/
def Obligations.IntAcceptance : Prop :=
  ∀ s : State, s.nmiCond = false → s.iff1 = true → s.vdp.intLine = true →
    ∃ t, step s = .next t.updateDevices ∧ t.halted = false ∧ t.eiPending = false ∧ t.iff1 = false ∧ t.iff2 = false ∧
      t.sp = s.sp - 2#16 ∧ s.bus.storesWord t.bus (s.sp - 2#16) (hiByte s.pc) (loByte s.pc) ∧
      (s.im = .im2 → t.cost = 19 ∧
        t.pc.toNat = 256 * (t.memRead (mkWord s.i s.cfg.intDataByte + 1#16)).toNat +
          (t.memRead (mkWord s.i s.cfg.intDataByte)).toNat) ∧
      (s.im ≠ .im2 → t.cost = 13 ∧ t.pc = 0x0038#16) ∧
      s.changesOnly t [.halted, .eiPending, .iff1, .iff2, .sp, .pc, .bus]

/-- With both requests the non-maskable one is accepted; the maskable one stays on its level and is blocked (rule R418). -/
def Obligations.InterruptPriority : Prop :=
  ∀ s : State, s.nmiCond = true → s.intCond = true →
    ∃ t, step s = .next t ∧ t.pc = 0x0066#16 ∧ t.nmiReq = false ∧ t.iff1 = false ∧ t.iff2 = true ∧
      t.vdp.intLine = true ∧ t.intCond = false

/-- A halted step with no interrupt changes no processor state and costs 4 T; the devices advance, and they alone (rules
R410, R412, R517). -/
def Obligations.HaltedIdle : Prop :=
  (∀ s : State, s.nmiCond = false → s.intCond = false → s.halted = true →
    ∃ t, step s = .next t.updateDevices ∧ t.cost = 4 ∧ s.changesOnly t []) ∧
  (∀ s : State, s.changesOnly s.updateDevices [.psg, .vdp, .notices] ∧ s.updateDevices.cost = s.cost ∧
    s.updateDevices.psg = s.psg.update s.cfg s.cost ∧ s.updateDevices.vdp = (s.vdp.update s.cfg s.cost).1)

/-- The one-step latency of EI (10_state.md rule R33): EI sets EI_PENDING only; the instruction step that samples it ends
with both enables set, whatever its instruction, and with EI_PENDING clear unless that instruction requests it again;
acceptance clears EI_PENDING. -/
def Obligations.EiLatency : Prop :=
  (∀ (s : State) (px : Pfx), ∃ t, exec (.ei px) s = .next t ∧ t.cost = 4 + px.extra ∧ t.eiPending = true ∧
    s.changesOnly t [.eiPending]) ∧
  (∀ s t : State, s.nmiCond = false → s.intCond = false → s.halted = false → s.eiPending = true → step s = .next t →
    t.iff1 = true ∧ t.iff2 = true) ∧
  (∀ s t : State, s.nmiCond = false → s.intCond = false → s.halted = false → step s = .next t → t.eiPending = true →
    (∃ px, s.fetch = .ei px) ∨ (∃ op, s.fetch = .undefinedED op ∧ s.cfg.edUndefined = .sourceNoni)) ∧
  (∀ s t : State, s.nmiCond = true ∨ s.intCond = true → step s = .next t → t.eiPending = false)

/-- R counts instruction steps in its low seven bits and keeps its top bit (10_state.md rule R29); `LD R,A` is followed
by one increment, `LD A,R` reads the value before it; acceptance and idling leave R alone. -/
def Obligations.RefreshCounter : Prop :=
  ∀ s t : State, step s = .next t →
    (s.nmiCond = true ∨ s.intCond = true ∨ s.halted = true → t.r = s.r) ∧
    (s.nmiCond = false → s.intCond = false → s.halted = false →
      (s.fetch ≠ .ldRA → t.r.toNat % 128 = (s.r.toNat % 128 + 1) % 128 ∧ t.r.getLsbD 7 = s.r.getLsbD 7) ∧
      (s.fetch = .ldRA → t.r.toNat % 128 = (s.main.a.toNat % 128 + 1) % 128 ∧ t.r.getLsbD 7 = s.main.a.getLsbD 7) ∧
      (s.fetch = .ldAR → t.main.a = s.r))

/-- Which instructions write the control state, and that none writes NMI_REQ or the parameters (10_state.md rules R28 to
R34). -/
def Obligations.ControlStateWriters : Prop :=
  ∀ (i : Instr) (s t : State), exec i s = .next t →
    t.nmiReq = s.nmiReq ∧ t.cfg = s.cfg ∧
    (t.im ≠ s.im → i ∈ [.im0, .im1, .im2, .im1Dup, .im2Dup] ∨ ∃ y, i = .im0Dup y) ∧
    (t.i ≠ s.i → i = .ldIA) ∧ (t.r ≠ s.r → i = .ldRA) ∧
    (t.halted ≠ s.halted → ∃ px, i = .halt px) ∧
    (t.eiPending ≠ s.eiPending → (∃ px, i = .ei px) ∨ (∃ op, i = .undefinedED op ∧ s.cfg.edUndefined = .sourceNoni)) ∧
    (t.iff2 ≠ s.iff2 → (∃ px, i = .di px) ∨ (∃ op, i = .undefinedED op ∧ s.cfg.edUndefined = .sourceNoni)) ∧
    (t.iff1 ≠ s.iff1 → (∃ px, i = .di px) ∨ (∃ op, i = .undefinedED op ∧ s.cfg.edUndefined = .sourceNoni) ∨
      i = .reti ∨ i = .retn ∨ ∃ y, i = .retnDup y)

/-! The invariant, reset and construction. -/

/-- Every step from a legal state gives a legal state, with the same ROM and the same parameters (20_memory.md rule R61,
60_exceptions.md rule R450). -/
def Obligations.StepKeepsLegal : Prop :=
  ∀ s t : State, s.wf = true → step s = .next t →
    t.wf = true ∧ t.cfg = s.cfg ∧ t.bus.rom = s.bus.rom ∧ t.bus.pageCount = s.bus.pageCount

/-- The machine right after reset is legal, and it is what construction gives for an image of one page of zeros, the NTSC
parameters and the draw of all zeros: the model's choices of logs 1, 3, 4, 5 and 6. -/
def Obligations.ResetLegal : Prop :=
  State.reset.wf = true ∧
    construct (List.replicate 16384 0x00#8) Config.ntsc PowerUp.zero = .next State.reset

/-- Construction (20_memory.md rule R70, 70_reset_and_hazards.md rules R520, R521), for every image, every parameters and
every draw `d` of what the spec leaves unspecified. -/
def Obligations.Construction : Prop :=
  ∀ (image : List Byte) (c : Config) (d : PowerUp),
    let rom := if image.length % 16384 = 512 then image.drop 512 else image
    (rom.length = 0 ∨ rom.length % 16384 ≠ 0 → construct image c d = .refused .cartridgeRejected) ∧
    (rom.length ≠ 0 → rom.length % 16384 = 0 →
      ∃ t, construct image c d = .next t ∧
        t.bus.pageCount * 16384 = rom.length ∧
        (∀ k v, rom[k]? = some v → Memory.read .rom t.bus.rom k = v) ∧
        t.cfg = c ∧ t.pc = 0x0000#16 ∧ t.iff1 = false ∧ t.iff2 = false ∧ t.im = .im0 ∧ t.i = 0x00#8 ∧ t.r = 0x00#8 ∧
        t.halted = false ∧ t.eiPending = false ∧ t.nmiReq = false ∧
        t.main = d.main ∧ t.shadow = d.shadow ∧ t.ix = d.ix ∧ t.iy = d.iy ∧ t.sp = d.sp ∧
        t.bus.sysRam = d.sysRam ∧ t.bus.cartRam = d.cartRam ∧
        t.bus.page0 = 0#8 ∧ t.bus.page1 = 1#8 ∧ t.bus.page2 = 2#8 ∧ t.bus.ctrl = 0x00#8 ∧
        (∀ port, Memory.read .latch t.bus.latch port = 0xFF#8) ∧
        (∀ k, t.vdp.reg.getD k 0x00#8 = 0x00#8) ∧ t.vdp.addr = 0#14 ∧ t.vdp.code = 0#2 ∧ t.vdp.second = false ∧
        t.vdp.readBuf = 0x00#8 ∧ t.vdp.hc = 0 ∧ t.vdp.line = 0 ∧ t.vdp.lineCtr = 0x00#8 ∧
        t.vdp.framePending = false ∧ t.vdp.linePending = false ∧ t.vdp.sprOvf = false ∧ t.vdp.sprCol = false ∧
        t.vdp.vram = d.vram ∧ t.vdp.cram = d.cram ∧ t.vdp.fb = d.fb ∧ t.vdp.intLine = false ∧
        (∀ k, t.psg.tone.getD k 0#10 = 0#10) ∧ t.psg.noise = 0#3 ∧ (∀ k, t.psg.ctr.getD k 0 = 0) ∧
        t.psg.lch = 0#2 ∧ t.psg.ltype = false ∧ t.psg.acc = 0 ∧ t.psg.out = [] ∧ t.psg.wr = 0 ∧
        (∀ k, t.psg.vol.getD k 0xF#4 = 0xF#4) ∧ (∀ k, t.psg.pol.getD k .plus = .plus) ∧ t.psg.lfsr = 0x4000#15)

/-! Memory (20_memory.md). -/

/-- The memory map for reads (rules R62, R64): which storage byte an address reads, by range. That RAM_EN and RAM_PAGE are
bits 3 and 2 of CTRL is the spec's decision D19 (R61, general knowledge); what PAGE_COUNT 0 gives is log 19 (DEDUCED). -/
def Obligations.MemoryReadMap : Prop :=
  ∀ (s : State) (a : Word),
    (a.toNat < 0x0400 → s.memRead a = Memory.read .rom s.bus.rom a.toNat) ∧
    (0x0400 ≤ a.toNat → a.toNat < 0x4000 →
      s.memRead a = Memory.read .rom s.bus.rom (s.bus.page0.toNat % s.bus.pageCount * 0x4000 + a.toNat)) ∧
    (0x4000 ≤ a.toNat → a.toNat < 0x8000 →
      s.memRead a = Memory.read .rom s.bus.rom (s.bus.page1.toNat % s.bus.pageCount * 0x4000 + (a.toNat - 0x4000))) ∧
    (0x8000 ≤ a.toNat → a.toNat < 0xC000 → s.bus.ctrl.getLsbD 3 = true →
      s.memRead a = Memory.read .cartRam s.bus.cartRam ((s.bus.ctrl.getLsbD 2).toNat * 0x4000 + (a.toNat - 0x8000))) ∧
    (0x8000 ≤ a.toNat → a.toNat < 0xC000 → s.bus.ctrl.getLsbD 3 = false →
      s.memRead a = Memory.read .rom s.bus.rom (s.bus.page2.toNat % s.bus.pageCount * 0x4000 + (a.toNat - 0x8000))) ∧
    (0xC000 ≤ a.toNat → a.toNat < 0xE000 → s.memRead a = Memory.read .sysRam s.bus.sysRam (a.toNat - 0xC000)) ∧
    (0xE000 ≤ a.toNat → a.toNat < 0xFFFC → s.memRead a = Memory.read .sysRam s.bus.sysRam (a.toNat - 0xE000)) ∧
    (a = 0xFFFC#16 → s.memRead a = s.bus.ctrl) ∧ (a = 0xFFFD#16 → s.memRead a = s.bus.page0) ∧
    (a = 0xFFFE#16 → s.memRead a = s.bus.page1) ∧ (a = 0xFFFF#16 → s.memRead a = s.bus.page2)

/-- The memory map for writes (rule R63): the bytes of each store and the control bytes after a write, by range; nothing
but memory changes. That RAM_EN and RAM_PAGE are bits 3 and 2 of CTRL is the spec's decision D19 (R61, general
knowledge); that every write to the ROM frames is dropped is its decision D21. -/
def Obligations.MemoryWriteMap : Prop :=
  ∀ (s : State) (a : Word) (v : Byte),
    let t := s.memWrite a v
    s.changesOnly t [.bus] ∧ t.cost = s.cost ∧ t.bus.rom = s.bus.rom ∧ t.bus.latch = s.bus.latch ∧
    t.bus.pageCount = s.bus.pageCount ∧
    t.bus.ctrl = (if a = 0xFFFC#16 then v else s.bus.ctrl) ∧
    t.bus.page0 = (if a = 0xFFFD#16 then v else s.bus.page0) ∧
    t.bus.page1 = (if a = 0xFFFE#16 then v else s.bus.page1) ∧
    t.bus.page2 = (if a = 0xFFFF#16 then v else s.bus.page2) ∧
    (∀ off, Memory.read .cartRam t.bus.cartRam off =
      if 0x8000 ≤ a.toNat ∧ a.toNat < 0xC000 ∧ s.bus.ctrl.getLsbD 3 = true ∧
          off = (s.bus.ctrl.getLsbD 2).toNat * 0x4000 + (a.toNat - 0x8000)
      then v else Memory.read .cartRam s.bus.cartRam off) ∧
    (∀ off, Memory.read .sysRam t.bus.sysRam off =
      if 0xC000 ≤ a.toNat ∧ a.toNat < 0xE000 ∧ off = a.toNat - 0xC000 ∨
          0xE000 ≤ a.toNat ∧ a.toNat < 0xFFFC ∧ off = a.toNat - 0xE000
      then v else Memory.read .sysRam s.bus.sysRam off)

/-- System RAM and its mirror (rule R66): what is written from 0xC000 up is read back, also at the mirror address; the
last four bytes have no mirror; a write to a control byte reaches no system RAM. -/
def Obligations.SystemRamMirror : Prop :=
  ∀ (s : State) (a : Word) (v : Byte), 0xC000 ≤ a.toNat →
    (s.memWrite a v).memRead a = v ∧
    (a.toNat + 0x2000 < 0xFFFC → (s.memWrite a v).memRead (a + 0x2000#16) = v) ∧
    (0xE000 ≤ a.toNat → a.toNat < 0xFFFC → (s.memWrite a v).memRead (a - 0x2000#16) = v) ∧
    (0xFFFC ≤ a.toNat → ∀ x : Word, 0xC000 ≤ x.toNat → x.toNat < 0xFFFC → (s.memWrite a v).memRead x = s.memRead x) ∧
    (0xDFFC ≤ a.toNat → a.toNat < 0xE000 → ∀ x : Word, x ≠ a → (s.memWrite a v).memRead x = s.memRead x)

/-- Frame 2 and cartridge RAM (rule R67). That RAM_EN and RAM_PAGE are bits 3 and 2 of CTRL is the spec's decision D19
(R61, general knowledge); what PAGE_COUNT 0 gives is log 19 (DEDUCED). -/
def Obligations.CartridgeRam : Prop :=
  ∀ (s : State) (x : Word) (v p c : Byte), 0x8000 ≤ x.toNat → x.toNat < 0xC000 →
    let off := (s.bus.ctrl.getLsbD 2).toNat * 0x4000 + (x.toNat - 0x8000)
    (s.bus.ctrl.getLsbD 3 = true →
      s.memRead x = Memory.read .cartRam s.bus.cartRam off ∧
      Memory.read .cartRam (s.memWrite x v).bus.cartRam off = v ∧ (s.memWrite x v).memRead x = v ∧
      (s.memWrite 0xFFFF#16 p).memRead x = s.memRead x ∧ (s.memWrite 0xFFFF#16 p).memRead 0xFFFF#16 = p ∧
      (∀ k : Byte, k.getLsbD 3 = true → k.getLsbD 2 = s.bus.ctrl.getLsbD 2 →
        (((s.memWrite x v).memWrite 0xFFFC#16 c).memWrite 0xFFFC#16 k).memRead x = v)) ∧
    (s.bus.ctrl.getLsbD 3 = false →
      s.memWrite x v = s ∧
      (s.memWrite 0xFFFF#16 p).memRead x =
        Memory.read .rom s.bus.rom (p.toNat % s.bus.pageCount * 0x4000 + (x.toNat - 0x8000))) ∧
    (s.memWrite 0xFFFC#16 c).memRead 0xFFFC#16 = c ∧ (s.memWrite 0xFFFC#16 c).bus.cartRam = s.bus.cartRam ∧
    (∀ (k : Byte) (y : Word), k.getLsbD 3 = c.getLsbD 3 → k.getLsbD 2 = c.getLsbD 2 → y ≠ 0xFFFC#16 →
      (s.memWrite 0xFFFC#16 k).memRead y = (s.memWrite 0xFFFC#16 c).memRead y)

/-- A 16-bit store is two byte stores, the low byte first, the second address wrapping; seen through loads and reads the
other order gives the same; and a store across two regions is split (rule R74). The byte order is the spec's decision D1,
and that the order of the two writes is not observable its decision D31. -/
def Obligations.WideStore : Prop :=
  (∀ (s : State) (a v : Word),
    s.memWrite16 a v = (s.memWrite a (loByte v)).memWrite (a + 1#16) (hiByte v) ∧
    s.bus.storesWord (s.memWrite16 a v).bus a (hiByte v) (loByte v) ∧
    s.bus.storesWord ((s.memWrite (a + 1#16) (hiByte v)).memWrite a (loByte v)).bus a (hiByte v) (loByte v)) ∧
  (∀ s : State, Memory.read .sysRam (s.memWrite16 0xFFFB#16 0x0908#16).bus.sysRam 0x1FFB = 0x08#8 ∧
    (s.memWrite16 0xFFFB#16 0x0908#16).bus.ctrl = 0x09#8)

/-! Ports (20_memory.md) and the VDP (60_exceptions.md). -/

/-- The port map (rules R80, R81): which device or latch a port reads and writes, by port number. -/
def Obligations.PortMap : Prop :=
  (∀ (s : State) (port : Byte),
    (port.toNat < 64 → s.ioRead port = (0xFF#8, s)) ∧
    (64 ≤ port.toNat → port.toNat < 128 → port.toNat % 2 = 0 → s.ioRead port = (vCount s.cfg s.vdp.line, s)) ∧
    (64 ≤ port.toNat → port.toNat < 128 → port.toNat % 2 = 1 → s.ioRead port = (Config.hCount s.vdp.hc, s)) ∧
    (128 ≤ port.toNat → port.toNat < 192 → port.toNat % 2 = 0 →
      s.ioRead port = (s.vdp.dataRead.1, { s with vdp := s.vdp.dataRead.2 })) ∧
    (128 ≤ port.toNat → port.toNat < 192 → port.toNat % 2 = 1 → ∃ u : BitVec 5,
      s.ioRead port =
        ((s.vdp.statusRead u).1, { s with draws := s.draws + 1, vdp := (s.vdp.statusRead u).2 })) ∧
    (port = 0xDC#8 ∨ port = 0xDD#8 → s.ioRead port = (Memory.read .latch s.bus.latch port.toNat, s)) ∧
    (192 ≤ port.toNat → port ≠ 0xDC#8 → port ≠ 0xDD#8 → s.ioRead port = (0xFF#8, s))) ∧
  (∀ (s : State) (port v : Byte),
    (64 ≤ port.toNat → port.toNat < 128 → s.ioWrite port v = { s with psg := s.psg.write v }) ∧
    (128 ≤ port.toNat → port.toNat < 192 → port.toNat % 2 = 0 →
      s.ioWrite port v = { s with vdp := s.vdp.dataWrite v }) ∧
    (128 ≤ port.toNat → port.toNat < 192 → port.toNat % 2 = 1 →
      s.ioWrite port v = { s with vdp := s.vdp.controlWrite v }) ∧
    (port.toNat < 64 ∨ 192 ≤ port.toNat →
      s.ioWrite port v = { s with bus := { s.bus with latch := (s.ioWrite port v).bus.latch } } ∧
      ∀ q, Memory.read .latch (s.ioWrite port v).bus.latch q =
        if q = port.toNat then v else Memory.read .latch s.bus.latch q))

/-- A write to the VDP control port (rule R452), all four codes. -/
def Obligations.VdpControlPort : Prop :=
  ∀ (v : Vdp) (w : Byte),
    let t := v.controlWrite w
    t = { v with addr := t.addr, code := t.code, second := t.second, readBuf := t.readBuf, reg := t.reg } ∧
    (v.second = false → t.addr.toNat = v.addr.toNat / 256 * 256 + w.toNat ∧ t.second = true ∧ t.code = v.code ∧
      t.readBuf = v.readBuf ∧ t.reg = v.reg) ∧
    (v.second = true →
      let full := w.toNat % 64 * 256 + v.addr.toNat % 256
      t.second = false ∧ t.code.toNat = w.toNat / 64 ∧
      (w.toNat / 64 = 0 → t.readBuf = Memory.read .vram v.vram full ∧ t.addr.toNat = (full + 1) % 16384) ∧
      (w.toNat / 64 ≠ 0 → t.readBuf = v.readBuf ∧ t.addr.toNat = full) ∧
      (∀ k, t.reg[k]? = if w.toNat / 64 = 2 ∧ k = w.toNat % 16 ∧ k < 11 then some (BitVec.ofNat 8 full) else v.reg[k]?))

/-- The VDP data port, written and read, and the status port (rules R454, R455, R457). -/
def Obligations.VdpDataAndStatusPorts : Prop :=
  (∀ (v : Vdp) (w : Byte),
    let t := v.dataWrite w
    t = { v with second := false, readBuf := w, addr := t.addr, cram := t.cram, vram := t.vram } ∧
    t.addr.toNat = (v.addr.toNat + 1) % 16384 ∧
    (v.code = 3#2 → t.vram = v.vram ∧
      ∀ k, t.cram[k]? = if k = v.addr.toNat % 32 then some (w.extractLsb' 0 6) else v.cram[k]?) ∧
    (v.code ≠ 3#2 → t.cram = v.cram ∧
      ∀ a, Memory.read .vram t.vram a = if a = v.addr.toNat then w else Memory.read .vram v.vram a)) ∧
  (∀ v : Vdp,
    let t := v.dataRead.2
    v.dataRead.1 = v.readBuf ∧ t = { v with second := false, readBuf := t.readBuf, addr := t.addr } ∧
    t.readBuf = Memory.read .vram v.vram v.addr.toNat ∧ t.addr.toNat = (v.addr.toNat + 1) % 16384) ∧
  (∀ (v : Vdp) (u : BitVec 5),
    (v.statusRead u).1.toNat =
      128 * v.framePending.toNat + 64 * v.sprOvf.toNat + 32 * v.sprCol.toNat + u.toNat ∧
    (v.statusRead u).2 = { v with
      framePending := false, linePending := false, sprOvf := false, sprCol := false, second := false })

/-- The interrupt line is a function of the pending flags and the enables: reading the status drops it, setting an enable
while its flag is pending raises it (rule R461). -/
def Obligations.InterruptLine : Prop :=
  (∀ v : Vdp, v.intLine = true ↔
    (v.framePending = true ∧ v.reg[1].getLsbD 5 = true) ∨ (v.linePending = true ∧ v.reg[0].getLsbD 4 = true)) ∧
  (∀ (v : Vdp) (u : BitVec 5), (v.statusRead u).2.intLine = false) ∧
  (∀ (v : Vdp) (w : Byte), v.second = true → w.toNat / 64 = 2 →
    (w.toNat % 16 = 1 → v.framePending = true → v.addr.getLsbD 5 = true → (v.controlWrite w).intLine = true) ∧
    (w.toNat % 16 = 0 → v.linePending = true → v.addr.getLsbD 4 = true → (v.controlWrite w).intLine = true))

/-- The V-counter sequence (rule R464): linear up to VJUMP_FROM, then from VJUMP_TO on, never above 0xFF, 0xFF on the
last line of a frame that has lines after the jump, 0x00 after it; both video standards are admitted. The admitted
parameters are those of log 2 (DEDUCED), and the values of the two standards are R463's (general knowledge, D26). -/
def Obligations.VCounterSequence : Prop :=
  Config.ntsc.wf = true ∧ Config.pal.wf = true ∧
  ∀ (c : Config) (line : Nat), c.wf = true → line < c.linesPerFrame →
    (line ≤ c.vJumpFrom → (vCount c line).toNat = line) ∧
    (c.vJumpFrom < line → (vCount c line).toNat = line - (c.vJumpFrom + 1) + c.vJumpTo) ∧
    (c.vJumpFrom < line → line + 1 = c.linesPerFrame → vCount c line = 0xFF#8) ∧
    vCount c 0 = 0x00#8

/-- `VdpUpdate` and `EndOfLine` (rules R460, R465, R466): the excess over a line is kept, the line counter and the line
and frame interrupts follow the line entered, and the line is rendered while active. -/
def Obligations.VdpLineTiming : Prop :=
  (∀ (c : Config) (t : Nat) (v : Vdp), 0 < c.cyclesPerLine →
    (v.hc + t < c.cyclesPerLine → v.update c t = ({ v with hc := v.hc + t }, 0)) ∧
    (c.cyclesPerLine ≤ v.hc + t →
      let w := Vdp.endOfLine c { v with hc := v.hc + t - c.cyclesPerLine }
      v.update c t = ((w.update c 0).1,
        (w.update c 0).2 + if w.line = c.activeHeight + 1 ∧ w.reg[1].getLsbD 6 = true then 1 else 0))) ∧
  (∀ (c : Config) (v : Vdp),
    let t := v.endOfLine c
    t = { v with line := t.line, lineCtr := t.lineCtr, linePending := t.linePending, framePending := t.framePending,
                 fb := t.fb, sprOvf := t.sprOvf, sprCol := t.sprCol } ∧
    t.line = (v.line + 1) % c.linesPerFrame ∧
    (t.line ≤ c.activeHeight → v.lineCtr = 0#8 → t.lineCtr = v.reg[10] ∧ t.linePending = true) ∧
    (t.line ≤ c.activeHeight → v.lineCtr ≠ 0#8 →
      t.lineCtr.toNat = v.lineCtr.toNat - 1 ∧ t.linePending = v.linePending) ∧
    (c.activeHeight < t.line → t.lineCtr = v.reg[10] ∧ t.linePending = v.linePending) ∧
    (t.framePending = true ↔ v.framePending = true ∨ t.line = c.frameIntLine) ∧
    (t.line < c.activeHeight →
      t.fb = (v.renderLine t.line).fb ∧ t.sprOvf = (v.renderLine t.line).sprOvf ∧
      t.sprCol = (v.renderLine t.line).sprCol) ∧
    (c.activeHeight ≤ t.line → t.fb = v.fb ∧ t.sprOvf = v.sprOvf ∧ t.sprCol = v.sprCol))

/-- The sprites of a line (rule R467): those before the end marker that touch the line, the first eight of them drawn in
order, a pixel of an earlier sprite kept; the overflow when there is a ninth, the collision when two drawn pixels meet. -/
def Obligations.SpriteLine : Prop :=
  ∀ (v : Vdp) (ln : Nat),
    let zoom := if v.reg[1].getLsbD 0 then 2 else 1
    let sat := (v.reg[5].extractLsb' 1 6).toNat * 0x100
    let height : Int := (if v.reg[1].getLsbD 1 then 16 else 8) * zoom
    let top := fun i : Nat =>
      let y : Int := (v.vramAt (sat + i)).toNat + 1
      if y > 240 then y - 256 else y
    let listed := (List.range 64).takeWhile fun i => v.vramAt (sat + i) ≠ 0xD0#8
    let touching := listed.filter fun i => decide (top i ≤ ln ∧ (ln : Int) < top i + height)
    let left := fun i : Nat => ((v.vramAt (sat + 0x80 + 2 * i)).toNat : Int) - (if v.reg[0].getLsbD 3 then 8 else 0)
    let pattern := fun i : Nat =>
      let n := (v.vramAt (sat + 0x80 + 2 * i + 1)).toNat + (if v.reg[6].getLsbD 2 then 256 else 0)
      if v.reg[1].getLsbD 1 then n / 2 * 2 else n
    let colour := fun (sx i : Nat) =>
      let at_ := pattern i * 32 + ((ln : Int) - top i).toNat / zoom * 4
      let bit := 7 - ((sx : Int) - left i).toNat / zoom
      if left i ≤ sx ∧ (sx : Int) < left i + 8 * zoom then
        8 * ((v.vramAt (at_ + 3)).getLsbD bit).toNat + 4 * ((v.vramAt (at_ + 2)).getLsbD bit).toNat +
          2 * ((v.vramAt (at_ + 1)).getLsbD bit).toNat + ((v.vramAt at_).getLsbD bit).toNat
      else 0
    let drawn := fun sx : Nat => ((touching.take 8).map (colour sx)).filter (· ≠ 0)
    (v.sprites ln).overflow = decide (8 < touching.length) ∧
    (∀ sx, sx < 256 → ((v.sprites ln).pixels.lookup sx).map BitVec.toNat = (drawn sx).head?) ∧
    ((v.sprites ln).collision = true ↔ ∃ sx, sx < 256 ∧ 2 ≤ (drawn sx).length)

/-- The background of a line (rule R468), column by column as the rule writes it: name-table entry, scroll and its locks,
flips, palette, priority and the four bit planes. -/
def Obligations.BackgroundColumns : Prop :=
  ∀ (v : Vdp) (ln : Nat),
    let hs := if v.reg[0].getLsbD 6 = true ∧ ln < 16 then 0 else v.reg[8].toNat
    (∀ sx, sx < hs % 8 → v.tilePixel ln sx = none) ∧
    (∀ col px, col < 32 → px < 8 → col * 8 + hs % 8 + px < 256 →
      let vs := if v.reg[0].getLsbD 7 = true ∧ 24 ≤ col then 0 else v.reg[9].toNat
      let yy := (ln + vs) % 224
      let tcol := ((col : Int) - (hs / 8 : Nat)) % 32
      let at_ := (v.reg[2].extractLsb' 1 3).toNat * 0x800 + (yy / 8 * 32 + tcol.toNat) * 2
      let e := 256 * (v.vramAt (at_ + 1)).toNat + (v.vramAt at_).toNat
      let row := if e.testBit 10 then 7 - yy % 8 else yy % 8
      let pa := e % 512 * 32 + row * 4
      let bit := if e.testBit 9 then px else 7 - px
      ∃ t, v.tilePixel ln (col * 8 + hs % 8 + px) = some t ∧
        t.pal = e.testBit 11 ∧ t.prio = e.testBit 12 ∧
        t.c.toNat = 8 * ((v.vramAt (pa + 3)).getLsbD bit).toNat + 4 * ((v.vramAt (pa + 2)).getLsbD bit).toNat +
          2 * ((v.vramAt (pa + 1)).getLsbD bit).toNat + ((v.vramAt pa).getLsbD bit).toNat)

/-- The colour of every pixel of a rendered line (rules R469, R470): the choice among sprite, tile and backdrop, and its
expansion; with the display disabled the backdrop everywhere and no sprite status; nothing but FB and that status
changes. -/
def Obligations.PixelChoice : Prop :=
  ∀ (v : Vdp) (ln : Nat),
    let t := v.renderLine ln
    let shows := fun (sx k : Nat) => t.pixel ln sx =
      { red := BitVec.ofNat 8 ((v.colour k).toNat % 4 * 85)
        green := BitVec.ofNat 8 ((v.colour k).toNat / 4 % 4 * 85)
        blue := BitVec.ofNat 8 ((v.colour k).toNat / 16 * 85)
        alpha := 255#8 }
    t = { v with fb := t.fb, sprOvf := t.sprOvf, sprCol := t.sprCol } ∧
    (∀ k, k ≠ ln → t.fb.line k = v.fb.line k) ∧ (t.fb.line ln).length = 256 ∧
    (v.reg[1].getLsbD 6 = false →
      (∀ sx, sx < 256 → shows sx (16 + v.reg[7].toNat % 16)) ∧ t.sprOvf = v.sprOvf ∧ t.sprCol = v.sprCol) ∧
    (v.reg[1].getLsbD 6 = true →
      t.sprOvf = (v.sprOvf || (v.sprites ln).overflow) ∧ t.sprCol = (v.sprCol || (v.sprites ln).collision) ∧
      ∀ sx, sx < 256 →
        (∀ c, (v.sprites ln).pixels.lookup sx = some c →
          (∀ b, v.tilePixel ln sx = some b → ¬(b.prio = true ∧ b.c ≠ 0#4)) → shows sx (16 + c.toNat)) ∧
        (∀ b, v.tilePixel ln sx = some b →
          ((v.sprites ln).pixels.lookup sx = none ∨ (b.prio = true ∧ b.c ≠ 0#4)) →
          shows sx (16 * b.pal.toNat + b.c.toNat)) ∧
        ((v.sprites ln).pixels.lookup sx = none → v.tilePixel ln sx = none → shows sx (16 + v.reg[7].toNat % 16)))

/-! The PSG (60_exceptions.md). -/

/-- The PSG write (rule R502): latch bytes and data bytes to a volume, a tone period or the noise control. -/
def Obligations.PsgWritePort : Prop :=
  ∀ (p : Psg) (v : Byte),
    let t := p.write v
    t = { p with lch := t.lch, ltype := t.ltype, vol := t.vol, tone := t.tone, noise := t.noise, lfsr := t.lfsr } ∧
    (128 ≤ v.toNat → t.lch.toNat = v.toNat / 32 % 4 ∧ t.ltype = v.getLsbD 4) ∧
    (v.toNat < 128 → t.lch = p.lch ∧ t.ltype = p.ltype) ∧
    (∀ k, t.vol[k]? = if t.ltype = true ∧ k = t.lch.toNat then some (v.extractLsb' 0 4) else p.vol[k]?) ∧
    (∀ k old, p.tone[k]? = some old →
      t.tone[k]?.map BitVec.toNat = some (
        if t.ltype = false ∧ k = t.lch.toNat then
          (if 128 ≤ v.toNat then old.toNat / 16 * 16 + v.toNat % 16 else v.toNat % 64 * 16 + old.toNat % 16)
        else old.toNat)) ∧
    (t.ltype = false → t.lch = 3#2 → t.noise.toNat = v.toNat % 8 ∧ t.lfsr = 0x4000#15) ∧
    (t.ltype = true ∨ t.lch ≠ 3#2 → t.noise = p.noise ∧ t.lfsr = p.lfsr)

/-- `PsgUpdate` and the tone channels of `SampleStep` (rules R505, R506): the accumulator, the countdowns and the
polarities. -/
def Obligations.PsgSampleClock : Prop :=
  (∀ (c : Config) (t : Nat) (p : Psg), 0 < c.psgCyclesPerSample →
    (p.acc + t < c.psgCyclesPerSample → p.update c t = { p with acc := p.acc + t }) ∧
    (c.psgCyclesPerSample ≤ p.acc + t →
      p.update c t = Psg.update c 0 (Psg.sampleStep c { p with acc := p.acc + t - c.psgCyclesPerSample }))) ∧
  (∀ (c : Config) (p : Psg) (ch : Fin 3),
    let t := p.sampleStep c
    let k := ch.castSucc
    let period : Int := (p.tone.get ch).toNat
    let left := p.ctr.get k - c.psgDecrement
    (period < c.psgMinPeriod → t.pol.get k = .plus ∧ t.ctr.get k = p.ctr.get k) ∧
    ((c.psgMinPeriod : Int) ≤ period → left ≤ 0 →
      t.ctr.get k = left + period ∧ t.pol.get k = (if p.pol.get k = .plus then .minus else .plus)) ∧
    ((c.psgMinPeriod : Int) ≤ period → 0 < left → t.ctr.get k = left ∧ t.pol.get k = p.pol.get k))

/-- The noise channel and the mixed sample of `SampleStep` (60_exceptions.md, "SampleStep, noise channel" and
"SampleStep, mixing"; the rate table is the spec's general knowledge): the noise register, the sample stored at WR, and
nothing else. The sample is the sum that the rule writes, in floating point of every format; each sum is a number of the
format and no other lies between it and the exact sum (the model's choice of log 9: which neighbour it is stays free). -/
def Obligations.PsgNoiseAndMix : Prop :=
  (∀ (c : Config) (p : Psg),
    let t := p.sampleStep c
    let rate := p.noise.toNat % 4
    let period : Int := if rate = 3 then p.tone[2].toNat else (16 * 2 ^ rate : Nat)
    let left := p.ctr[3] - c.psgDecrement
    let fb := if p.noise.toNat / 4 = 1 then p.lfsr.getLsbD c.psgTap0 != p.lfsr.getLsbD c.psgTap1 else p.lfsr.getLsbD 0
    let next := p.lfsr.toNat / 2 + 16384 * fb.toNat
    let volume := fun (factor : Int) (k : Fin 4) =>
      let v := c.psgVolumeTable.get (p.vol.get k).toFin
      ({ significand := factor * v.significand, exponent := v.exponent } : Sample)
    let tones := ((volume t.pol[0].sign 0).add c (volume t.pol[1].sign 1)).add c (volume t.pol[2].sign 2)
    let sample := tones.add c (volume (t.lfsr.getLsbD 0).toNat 3)
    t = { p with ctr := t.ctr, pol := t.pol, lfsr := t.lfsr, out := t.out, wr := t.wr } ∧
    (left ≤ 0 → t.ctr[3] = left + period ∧ t.pol[3] = (if p.pol[3] = .plus then .minus else .plus) ∧
      t.lfsr.toNat = if next = 0 then 0x7FFF else next) ∧
    (0 < left → t.ctr[3] = left ∧ t.pol[3] = p.pol[3] ∧ t.lfsr = p.lfsr) ∧
    t.wr = (p.wr + 1) % c.psgOutLength ∧
    (p.wr ≤ p.out.length → t.out[p.wr]? = some sample ∧ ∀ k, k ≠ p.wr → t.out[k]? = p.out[k]?)) ∧
  (∀ (c : Config) (x y : Sample), 0 < c.psgFloatBits →
    let r := x.add c y
    r.fits c.psgFloatBits = true ∧
    ∀ (w : Sample) (e : Int), w.fits c.psgFloatBits = true →
      e ≤ x.exponent → e ≤ y.exponent → e ≤ r.exponent → e ≤ w.exponent →
      let exact := x.inUnits e + y.inUnits e
      ¬(r.inUnits e < w.inUnits e ∧ w.inUnits e ≤ exact) ∧ ¬(exact ≤ w.inUnits e ∧ w.inUnits e < r.inUnits e))

/-- The PSG's state never reaches the rest of the machine (rule R500): whatever it and the record of notifications are, a
step gives the same processor, bus, VDP and cost. -/
def Obligations.PsgInvisible : Prop :=
  ∀ (s t : State) (p : Psg) (k : Notices), step s = .next t →
    ∃ p' k', step { s with psg := p, notices := k } = .next { t with psg := p', notices := k' }

/-! Loads (40_load8.md, 41_load16_stack_exchange.md). -/

/-- Loads of a register: the value, the cost, and that nothing else changes, no flag included. -/
def Obligations.LoadRegister : Prop :=
  ∀ (s : State) (px : Pfx) (r src : Reg8) (n d : Byte) (nn : Word) (q : Instr × Reg8 × Byte × Nat),
    q ∈ [(Instr.ldRR px r src, r, s.reg src, 4 + px.extra), (.ldRN px r n, r, n, 7 + px.extra),
      (.ldRMHL r, r, s.memRead (mkWord s.main.h s.main.l), 7),
      (.ldRMIX r d, r, s.memRead (s.ix + d.signExtend 16), 19), (.ldRMIY r d, r, s.memRead (s.iy + d.signExtend 16), 19),
      (.ldABC px, .a, s.memRead (mkWord s.main.b s.main.c), 7 + px.extra),
      (.ldADE px, .a, s.memRead (mkWord s.main.d s.main.e), 7 + px.extra),
      (.ldAMNN px nn, .a, s.memRead nn, 13 + px.extra)] →
    ∃ t, exec q.1 s = .next t ∧ t.cost = q.2.2.2 ∧ t.reg q.2.1 = q.2.2.1 ∧ s.changesOnly t [regPart q.2.1]

/-- Stores of one byte: the address, the byte, the cost, and that nothing else changes. -/
def Obligations.StoreByte : Prop :=
  ∀ (s : State) (px : Pfx) (r : Reg8) (n d : Byte) (nn : Word) (q : Instr × Word × Byte × Nat),
    q ∈ [(Instr.ldMHLR r, mkWord s.main.h s.main.l, s.reg r, 7), (.ldMHLN n, mkWord s.main.h s.main.l, n, 10),
      (.ldMIXR r d, s.ix + d.signExtend 16, s.reg r, 19), (.ldMIYR r d, s.iy + d.signExtend 16, s.reg r, 19),
      (.ldMIXN d n, s.ix + d.signExtend 16, n, 19), (.ldMIYN d n, s.iy + d.signExtend 16, n, 19),
      (.ldBCA px, mkWord s.main.b s.main.c, s.main.a, 7 + px.extra),
      (.ldDEA px, mkWord s.main.d s.main.e, s.main.a, 7 + px.extra), (.ldMNNA px nn, nn, s.main.a, 13 + px.extra)] →
    ∃ t, exec q.1 s = .next t ∧ t.cost = q.2.2.2 ∧ s.bus.storesByte t.bus q.2.1 q.2.2.1 ∧ s.changesOnly t [.bus]

/-- Loads between registers with an index half among them, and of a half with an immediate: the half not named keeps its
value, as does every other register. -/
def Obligations.LoadIndexHalf : Prop :=
  (∀ (s : State) (dst src : XReg8) (x : Idx) (i : Instr), (i, x) ∈ [(Instr.ldPP dst src, Idx.ix), (.ldQQ dst src, .iy)] →
    ∃ t, exec i s = .next t ∧ t.cost = 8 ∧ t.xreg x dst = s.xreg x src ∧ s.changesOnly t [xregPart x dst] ∧
      (dst ≠ .xh → hiByte (t.index x) = hiByte (s.index x)) ∧ (dst ≠ .xl → loByte (t.index x) = loByte (s.index x))) ∧
  (∀ (s : State) (n : Byte) (x : Idx) (i : Half → Instr),
    (i, x) ∈ [(fun h => Instr.ldIXHalfN h n, Idx.ix), (fun h => .ldIYHalfN h n, .iy)] →
    (∃ t, exec (i .high) s = .next t ∧ t.cost = 11 ∧ t.index x = mkWord n (loByte (s.index x)) ∧
      s.changesOnly t [idxPart x]) ∧
    (∃ t, exec (i .low) s = .next t ∧ t.cost = 11 ∧ t.index x = mkWord (hiByte (s.index x)) n ∧
      s.changesOnly t [idxPart x]))

/-- `LD A,I`, `LD A,R` with their flags, F.PV from IFF2; `LD I,A`, `LD R,A`. -/
def Obligations.LoadInterruptAndRefresh : Prop :=
  ∀ s : State,
    (∀ q ∈ [(Instr.ldAI, s.i), (Instr.ldAR, s.r)], ∃ t, exec q.1 s = .next t ∧ t.cost = 9 ∧ t.main.a = q.2 ∧
      flagBits t.main.f (q.2.getLsbD 7) (decide (q.2 = 0#8)) (q.2.getLsbD 5) false (q.2.getLsbD 3) s.iff2 false
        (s.main.f.getLsbD 0) ∧
      s.changesOnly t [.a, .f]) ∧
    (∃ t, exec .ldIA s = .next t ∧ t.cost = 9 ∧ t.i = s.main.a ∧ s.changesOnly t [.i]) ∧
    (∃ t, exec .ldRA s = .next t ∧ t.cost = 9 ∧ t.r = s.main.a ∧ s.changesOnly t [.r])

/-- Loads and counts of a 16-bit register: immediates, memory, SP, INC and DEC; no flag changes. -/
def Obligations.LoadWide : Prop :=
  ∀ (s : State) (px : Pfx) (p : Reg16) (nn : Word) (q : Instr × (State → Word) × List Part × Nat × Nat),
    let at_ := 256 * (s.memRead (nn + 1#16)).toNat + (s.memRead nn).toNat
    q ∈ [(Instr.ldRpNN px p nn, (State.pair · p), pairParts p, nn.toNat, 10 + px.extra),
      (.ldHLMNN nn, (State.pair · .hl), [.h, .l], at_, 16), (.ldRpMNN p nn, (State.pair · p), pairParts p, at_, 20),
      (.ldIXNN nn, State.ix, [.ix], nn.toNat, 14), (.ldIYNN nn, State.iy, [.iy], nn.toNat, 14),
      (.ldIXMNN nn, State.ix, [.ix], at_, 20), (.ldIYMNN nn, State.iy, [.iy], at_, 20),
      (.ldSPHL, State.sp, [.sp], 256 * s.main.h.toNat + s.main.l.toNat, 6),
      (.ldSPIX, State.sp, [.sp], s.ix.toNat, 10), (.ldSPIY, State.sp, [.sp], s.iy.toNat, 10),
      (.incRp px p, (State.pair · p), pairParts p, ((s.pair p).toNat + 1) % 65536, 6 + px.extra),
      (.decRp px p, (State.pair · p), pairParts p, ((s.pair p).toNat + 65535) % 65536, 6 + px.extra),
      (.incIX, State.ix, [.ix], (s.ix.toNat + 1) % 65536, 10), (.incIY, State.iy, [.iy], (s.iy.toNat + 1) % 65536, 10),
      (.decIX, State.ix, [.ix], (s.ix.toNat + 65535) % 65536, 10),
      (.decIY, State.iy, [.iy], (s.iy.toNat + 65535) % 65536, 10)] →
    ∃ t, exec q.1 s = .next t ∧ t.cost = q.2.2.2.2 ∧ (q.2.1 t).toNat = q.2.2.2.1 ∧ s.changesOnly t q.2.2.1

/-- Stores of 16 bits, pushes among them: the address, both bytes, SP, the cost, and that nothing else changes. -/
def Obligations.StoreWide : Prop :=
  ∀ (s : State) (px : Pfx) (p : Reg16) (k : Stk16) (nn : Word) (q : Instr × Word × Word × Word × Nat),
    q ∈ [(Instr.ldMNNHL nn, nn, mkWord s.main.h s.main.l, s.sp, 16), (.ldMNNRp p nn, nn, s.pair p, s.sp, 20),
      (.ldMNNIX nn, nn, s.ix, s.sp, 20), (.ldMNNIY nn, nn, s.iy, s.sp, 20),
      (.pushRp2 px k, s.sp - 2#16, s.stk k, s.sp - 2#16, 11 + px.extra),
      (.pushIX, s.sp - 2#16, s.ix, s.sp - 2#16, 15), (.pushIY, s.sp - 2#16, s.iy, s.sp - 2#16, 15)] →
    ∃ t, exec q.1 s = .next t ∧ t.cost = q.2.2.2.2 ∧ t.sp = q.2.2.2.1 ∧
      s.bus.storesWord t.bus q.2.1 (hiByte q.2.2.1) (loByte q.2.2.1) ∧ s.changesOnly t [.bus, .sp]

/-- The exchanges: `EX DE,HL`, `EX AF,AF'`, `EXX`, and the exchanges with the top of the stack. -/
def Obligations.Exchanges : Prop :=
  (∀ (s : State) (px : Pfx),
    (∃ t, exec (.exDEHL px) s = .next t ∧ t.cost = 4 + px.extra ∧ t.main.d = s.main.h ∧ t.main.e = s.main.l ∧
      t.main.h = s.main.d ∧ t.main.l = s.main.e ∧ s.changesOnly t [.d, .e, .h, .l]) ∧
    (∃ t, exec (.exAF px) s = .next t ∧ t.cost = 4 + px.extra ∧ t.main.a = s.shadow.a ∧ t.main.f = s.shadow.f ∧
      t.shadow = { s.shadow with a := s.main.a, f := s.main.f } ∧ s.changesOnly t [.a, .f, .shadow]) ∧
    (∃ t, exec (.exx px) s = .next t ∧ t.cost = 4 + px.extra ∧
      t.main = { s.shadow with a := s.main.a, f := s.main.f } ∧
      t.shadow = { s.main with a := s.shadow.a, f := s.shadow.f } ∧
      s.changesOnly t [.b, .c, .d, .e, .h, .l, .shadow])) ∧
  (∀ (s : State) (q : Instr × (State → Word) × List Part × Nat),
    q ∈ [(Instr.exSPHL, (State.pair · .hl), [.h, .l], 19), (.exSPIX, State.ix, [.ix], 23), (.exSPIY, State.iy, [.iy], 23)] →
    ∃ t, exec q.1 s = .next t ∧ t.cost = q.2.2.2 ∧
      (q.2.1 t).toNat = 256 * (s.memRead (s.sp + 1#16)).toNat + (s.memRead s.sp).toNat ∧
      s.bus.storesWord t.bus s.sp (hiByte (q.2.1 s)) (loByte (q.2.1 s)) ∧ s.changesOnly t (.bus :: q.2.2.1))

/-! 8-bit arithmetic and logic (42_alu8.md). -/

/-- `ADD` and `ADC` on every operand form: the sum modulo 256 and all eight flags, overflow as the signed sum leaving the
range of a byte. -/
def Obligations.AddToA : Prop :=
  ∀ (s : State) (px : Pfx) (r : Reg8) (n d : Byte) (h : Half) (q : Instr × Byte × Bool × Nat),
    let cy := s.main.f.getLsbD 0
    let atHL := s.memRead (mkWord s.main.h s.main.l)
    let atIX := s.memRead (s.ix + d.signExtend 16)
    let atIY := s.memRead (s.iy + d.signExtend 16)
    q ∈ [(Instr.addR px r, s.reg r, false, 4 + px.extra), (.addN px n, n, false, 7 + px.extra), (.addMHL, atHL, false, 7),
      (.addMIX d, atIX, false, 19), (.addMIY d, atIY, false, 19), (.addIXHalf h, s.half .ix h, false, 8),
      (.addIYHalf h, s.half .iy h, false, 8),
      (.adcR px r, s.reg r, cy, 4 + px.extra), (.adcN px n, n, cy, 7 + px.extra), (.adcMHL, atHL, cy, 7),
      (.adcMIX d, atIX, cy, 19), (.adcMIY d, atIY, cy, 19), (.adcIXHalf h, s.half .ix h, cy, 8),
      (.adcIYHalf h, s.half .iy h, cy, 8)] →
    let a := s.main.a
    let b := q.2.1
    let c := q.2.2.1.toNat
    let sum := a.toNat + b.toNat + c
    let signed := a.toInt + b.toInt + c
    ∃ t, exec q.1 s = .next t ∧ t.cost = q.2.2.2 ∧ t.main.a.toNat = sum % 256 ∧
      flagBits t.main.f (decide (128 ≤ sum % 256)) (decide (sum % 256 = 0)) (t.main.a.getLsbD 5)
        (decide (15 < a.toNat % 16 + b.toNat % 16 + c)) (t.main.a.getLsbD 3)
        (decide (signed < -128 ∨ 127 < signed)) false (decide (255 < sum)) ∧
      s.changesOnly t [.a, .f]

/-- `SUB`, `SBC` and `NEG` on every operand form: the difference modulo 256 and all eight flags. -/
def Obligations.SubFromA : Prop :=
  ∀ (s : State) (px : Pfx) (r : Reg8) (n d : Byte) (h : Half) (y : BitVec 3) (q : Instr × Byte × Byte × Bool × Nat),
    let cy := s.main.f.getLsbD 0
    let a := s.main.a
    let atHL := s.memRead (mkWord s.main.h s.main.l)
    let atIX := s.memRead (s.ix + d.signExtend 16)
    let atIY := s.memRead (s.iy + d.signExtend 16)
    q ∈ [(Instr.subR px r, a, s.reg r, false, 4 + px.extra), (.subN px n, a, n, false, 7 + px.extra),
      (.subMHL, a, atHL, false, 7), (.subMIX d, a, atIX, false, 19), (.subMIY d, a, atIY, false, 19),
      (.subIXHalf h, a, s.half .ix h, false, 8), (.subIYHalf h, a, s.half .iy h, false, 8),
      (.sbcR px r, a, s.reg r, cy, 4 + px.extra), (.sbcN px n, a, n, cy, 7 + px.extra), (.sbcMHL, a, atHL, cy, 7),
      (.sbcMIX d, a, atIX, cy, 19), (.sbcMIY d, a, atIY, cy, 19), (.sbcIXHalf h, a, s.half .ix h, cy, 8),
      (.sbcIYHalf h, a, s.half .iy h, cy, 8),
      (.neg, 0#8, a, false, 8), (.negDup y, 0#8, a, false, 8)] →
    let m := q.2.1
    let b := q.2.2.1
    let c := q.2.2.2.1.toNat
    let diff : Int := m.toNat - b.toNat - c
    let signed := m.toInt - b.toInt - c
    ∃ t, exec q.1 s = .next t ∧ t.cost = q.2.2.2.2 ∧ (t.main.a.toNat : Int) = diff % 256 ∧
      flagBits t.main.f (decide (128 ≤ diff % 256)) (decide (diff % 256 = 0)) (t.main.a.getLsbD 5)
        (decide (m.toNat % 16 < b.toNat % 16 + c)) (t.main.a.getLsbD 3)
        (decide (signed < -128 ∨ 127 < signed)) true (decide (diff < 0)) ∧
      s.changesOnly t [.a, .f]

/-- `AND`, `XOR` and `OR` on every operand form: the result and all eight flags, F.PV the even parity. -/
def Obligations.LogicOnA : Prop :=
  ∀ (s : State) (px : Pfx) (r : Reg8) (n d : Byte) (h : Half) (q : Instr × Byte × Bool × Nat),
    let a := s.main.a
    let atHL := s.memRead (mkWord s.main.h s.main.l)
    let atIX := s.memRead (s.ix + d.signExtend 16)
    let atIY := s.memRead (s.iy + d.signExtend 16)
    q ∈ [(Instr.andR px r, a &&& s.reg r, true, 4 + px.extra), (.andN px n, a &&& n, true, 7 + px.extra),
      (.andMHL, a &&& atHL, true, 7), (.andMIX d, a &&& atIX, true, 19), (.andMIY d, a &&& atIY, true, 19),
      (.andIXHalf h, a &&& s.half .ix h, true, 8), (.andIYHalf h, a &&& s.half .iy h, true, 8),
      (.xorR px r, a ^^^ s.reg r, false, 4 + px.extra), (.xorN px n, a ^^^ n, false, 7 + px.extra),
      (.xorMHL, a ^^^ atHL, false, 7), (.xorMIX d, a ^^^ atIX, false, 19), (.xorMIY d, a ^^^ atIY, false, 19),
      (.xorIXHalf h, a ^^^ s.half .ix h, false, 8), (.xorIYHalf h, a ^^^ s.half .iy h, false, 8),
      (.orR px r, a ||| s.reg r, false, 4 + px.extra), (.orN px n, a ||| n, false, 7 + px.extra),
      (.orMHL, a ||| atHL, false, 7), (.orMIX d, a ||| atIX, false, 19), (.orMIY d, a ||| atIY, false, 19),
      (.orIXHalf h, a ||| s.half .ix h, false, 8), (.orIYHalf h, a ||| s.half .iy h, false, 8)] →
    let v := q.2.1
    ∃ t, exec q.1 s = .next t ∧ t.cost = q.2.2.2 ∧ t.main.a = v ∧
      flagBits t.main.f (v.getLsbD 7) (decide (v = 0#8)) (v.getLsbD 5) q.2.2.1 (v.getLsbD 3)
        (decide (ones v % 2 = 0)) false false ∧
      s.changesOnly t [.a, .f]

/-- `CP` on every operand form: the flags of the subtraction, F.Y and F.X from the operand, A unchanged. -/
def Obligations.CompareWithA : Prop :=
  ∀ (s : State) (px : Pfx) (r : Reg8) (n d : Byte) (h : Half) (q : Instr × Byte × Nat),
    q ∈ [(Instr.cpR px r, s.reg r, 4 + px.extra), (.cpN px n, n, 7 + px.extra),
      (.cpMHL, s.memRead (mkWord s.main.h s.main.l), 7), (.cpMIX d, s.memRead (s.ix + d.signExtend 16), 19),
      (.cpMIY d, s.memRead (s.iy + d.signExtend 16), 19), (.cpIXHalf h, s.half .ix h, 8),
      (.cpIYHalf h, s.half .iy h, 8)] →
    let a := s.main.a
    let b := q.2.1
    let signed := a.toInt - b.toInt
    ∃ t, exec q.1 s = .next t ∧ t.cost = q.2.2 ∧
      flagBits t.main.f (decide (128 ≤ ((a.toNat : Int) - b.toNat) % 256)) (decide (a = b)) (b.getLsbD 5)
        (decide (a.toNat % 16 < b.toNat % 16)) (b.getLsbD 3) (decide (signed < -128 ∨ 127 < signed)) true
        (decide (a.toNat < b.toNat)) ∧
      s.changesOnly t [.f]

/-- `INC` and `DEC` of 8 bits on every operand form: the value, the seven flags written, F.C kept; memory forms read and
write one byte. -/
def Obligations.IncDecByte : Prop :=
  ∀ s : State,
    let flags := fun (v w : Byte) (down : Bool) (f : Byte) =>
      w.toNat = (if down then v.toNat + 255 else v.toNat + 1) % 256 ∧
      flagBits f (decide (128 ≤ w.toNat)) (decide (w.toNat = 0)) (w.getLsbD 5)
        (decide (v.toNat % 16 = if down then 0 else 15)) (w.getLsbD 3)
        (decide (v.toNat = if down then 128 else 127)) down (s.main.f.getLsbD 0)
    (∀ (px : Pfx) (r : Reg8), ∀ q ∈ [(Instr.incR px r, false), (Instr.decR px r, true)],
      ∃ t, exec q.1 s = .next t ∧ t.cost = 4 + px.extra ∧ flags (s.reg r) (t.reg r) q.2 t.main.f ∧
        s.changesOnly t [regPart r, .f]) ∧
    (∀ (x : Idx) (h k : Half) (i : Instr) (down : Bool),
      (i, x, down) ∈ [(Instr.incIXHalf h, Idx.ix, false), (.decIXHalf h, .ix, true), (.incIYHalf h, .iy, false),
        (.decIYHalf h, .iy, true)] →
      ∃ t, exec i s = .next t ∧ t.cost = 8 ∧ flags (s.half x h) (t.half x h) down t.main.f ∧
        (k ≠ h → t.half x k = s.half x k) ∧ s.changesOnly t [idxPart x, .f]) ∧
    (∀ (d : Byte) (q : Instr × Word × Bool × Nat),
      q ∈ [(Instr.incMHL, mkWord s.main.h s.main.l, false, 11), (.decMHL, mkWord s.main.h s.main.l, true, 11),
        (.incMIX d, s.ix + d.signExtend 16, false, 23), (.decMIX d, s.ix + d.signExtend 16, true, 23),
        (.incMIY d, s.iy + d.signExtend 16, false, 23), (.decMIY d, s.iy + d.signExtend 16, true, 23)] →
      ∃ t w, exec q.1 s = .next t ∧ t.cost = q.2.2.2 ∧ flags (s.memRead q.2.1) w q.2.2.1 t.main.f ∧
        s.bus.storesByte t.bus q.2.1 w ∧ s.changesOnly t [.bus, .f])

/-- `DAA`, `CPL`, `SCF` and `CCF`: A and the flags each writes; the others are kept. -/
def Obligations.AccumulatorOps : Prop :=
  ∀ (s : State) (px : Pfx),
    let a := s.main.a
    let f := s.main.f
    let six := if f.getLsbD 4 = true ∨ 9 < a.toNat % 16 then 6 else 0
    let sixty := if f.getLsbD 0 = true ∨ 0x99 < a.toNat then 0x60 else 0
    (∃ t, exec (.daa px) s = .next t ∧ t.cost = 4 + px.extra ∧
      (t.main.a.toNat : Int) = (if f.getLsbD 1 then (a.toNat : Int) - (six + sixty) else a.toNat + (six + sixty)) % 256 ∧
      flagBits t.main.f (t.main.a.getLsbD 7) (decide (t.main.a.toNat = 0)) (t.main.a.getLsbD 5)
        (if f.getLsbD 1 then f.getLsbD 4 && decide (a.toNat % 16 < 6) else decide (9 < a.toNat % 16))
        (t.main.a.getLsbD 3) (decide (ones t.main.a % 2 = 0)) (f.getLsbD 1)
        (f.getLsbD 0 || decide (0x99 < a.toNat)) ∧
      s.changesOnly t [.a, .f]) ∧
    (∃ t, exec (.cpl px) s = .next t ∧ t.cost = 4 + px.extra ∧ t.main.a.toNat = 255 - a.toNat ∧
      flagBits t.main.f (f.getLsbD 7) (f.getLsbD 6) (t.main.a.getLsbD 5) true (t.main.a.getLsbD 3) (f.getLsbD 2) true
        (f.getLsbD 0) ∧
      s.changesOnly t [.a, .f]) ∧
    (∃ t, exec (.scf px) s = .next t ∧ t.cost = 4 + px.extra ∧
      flagBits t.main.f (f.getLsbD 7) (f.getLsbD 6) (a.getLsbD 5) false (a.getLsbD 3) (f.getLsbD 2) false true ∧
      s.changesOnly t [.f]) ∧
    (∃ t, exec (.ccf px) s = .next t ∧ t.cost = 4 + px.extra ∧
      flagBits t.main.f (f.getLsbD 7) (f.getLsbD 6) (a.getLsbD 5) (f.getLsbD 0) (a.getLsbD 3) (f.getLsbD 2) false
        (!f.getLsbD 0) ∧
      s.changesOnly t [.f])

/-! 16-bit arithmetic (43_alu16.md). -/

/-- `ADD HL,ss`, `ADD IX,pp`, `ADD IY,rr`, `ADC HL,ss` and `SBC HL,ss` with the flags of rule R240. -/
def Obligations.WideArithmetic : Prop :=
  ∀ (s : State) (p : Reg16),
    let f := s.main.f
    let cy := (f.getLsbD 0).toNat
    let hl := mkWord s.main.h s.main.l
    (∀ (q : Instr × (State → Word) × List Part × Word × Nat),
      q ∈ [(Instr.addHLRp p, (State.pair · .hl), [.h, .l], s.pair p, 11),
        (.addIXRp p, State.ix, [.ix], (if p = .hl then s.ix else s.pair p), 15),
        (.addIYRp p, State.iy, [.iy], (if p = .hl then s.iy else s.pair p), 15)] →
      let a := q.2.1 s
      let b := q.2.2.2.1
      ∃ t, exec q.1 s = .next t ∧ t.cost = q.2.2.2.2 ∧ (q.2.1 t).toNat = (a.toNat + b.toNat) % 65536 ∧
        flagBits t.main.f (f.getLsbD 7) (f.getLsbD 6) ((q.2.1 t).getLsbD 13)
          (decide (4095 < a.toNat % 4096 + b.toNat % 4096)) ((q.2.1 t).getLsbD 11) (f.getLsbD 2) false
          (decide (65535 < a.toNat + b.toNat)) ∧
        s.changesOnly t (.f :: q.2.2.1)) ∧
    (let b := s.pair p
     let signed := hl.toInt + b.toInt + cy
     ∃ t, exec (.adcHLRp p) s = .next t ∧ t.cost = 15 ∧ (t.pair .hl).toNat = (hl.toNat + b.toNat + cy) % 65536 ∧
       flagBits t.main.f ((t.pair .hl).getLsbD 15) (decide ((t.pair .hl).toNat = 0)) ((t.pair .hl).getLsbD 13)
         (decide (4095 < hl.toNat % 4096 + b.toNat % 4096 + cy)) ((t.pair .hl).getLsbD 11)
         (decide (signed < -32768 ∨ 32767 < signed)) false (decide (65535 < hl.toNat + b.toNat + cy)) ∧
       s.changesOnly t [.h, .l, .f]) ∧
    (let b := s.pair p
     let diff : Int := hl.toNat - b.toNat - cy
     let signed := hl.toInt - b.toInt - cy
     ∃ t, exec (.sbcHLRp p) s = .next t ∧ t.cost = 15 ∧ ((t.pair .hl).toNat : Int) = diff % 65536 ∧
       flagBits t.main.f ((t.pair .hl).getLsbD 15) (decide ((t.pair .hl).toNat = 0)) ((t.pair .hl).getLsbD 13)
         (decide (hl.toNat % 4096 < b.toNat % 4096 + cy)) ((t.pair .hl).getLsbD 11)
         (decide (signed < -32768 ∨ 32767 < signed)) true (decide (diff < 0)) ∧
       s.changesOnly t [.h, .l, .f])

/-! Rotates, shifts and bits (44_rotate_shift_bit.md). -/

/-- The four accumulator rotates and the eight rotates and shifts of a register (44_rotate_shift_bit.md): the result, the
carry out, and the other flags, kept by an accumulator rotate and those of `rotflags` for a register. -/
def Obligations.RotateRegister : Prop :=
  (∀ (s : State) (px : Pfx) (q : Instr × Rot),
    q ∈ [(Instr.rlca px, Rot.rlc), (.rrca px, .rrc), (.rla px, .rl), (.rra px, .rr)] →
    let f := s.main.f
    ∃ t, exec q.1 s = .next t ∧ t.cost = 4 + px.extra ∧
      t.main.a.toNat = shiftedNat q.2 s.main.a.toNat (f.getLsbD 0).toNat ∧
      flagBits t.main.f (f.getLsbD 7) (f.getLsbD 6) (t.main.a.getLsbD 5) false (t.main.a.getLsbD 3) (f.getLsbD 2) false
        (shiftedOut q.2 s.main.a.toNat) ∧
      s.changesOnly t [.a, .f]) ∧
  (∀ (s : State) (r : Reg8) (q : Instr × Rot),
    q ∈ [(Instr.rlcR r, Rot.rlc), (.rrcR r, .rrc), (.rlR r, .rl), (.rrR r, .rr), (.slaR r, .sla), (.sraR r, .sra),
      (.sllR r, .sll), (.srlR r, .srl)] →
    ∃ t, exec q.1 s = .next t ∧ t.cost = 8 ∧
      (t.reg r).toNat = shiftedNat q.2 (s.reg r).toNat (s.main.f.getLsbD 0).toNat ∧
      flagBits t.main.f ((t.reg r).getLsbD 7) (decide ((t.reg r).toNat = 0)) ((t.reg r).getLsbD 5) false
        ((t.reg r).getLsbD 3) (decide (ones (t.reg r) % 2 = 0)) false (shiftedOut q.2 (s.reg r).toNat) ∧
      s.changesOnly t [regPart r, .f])

/-- The rotates and shifts of a memory byte, the copy forms that also write a register among them. -/
def Obligations.RotateMemory : Prop :=
  ∀ (s : State) (d : Byte) (rot : Rot) (r : Reg8) (q : Instr × Rot × Word × List Part × Nat),
    let hl := mkWord s.main.h s.main.l
    let ixd := s.ix + d.signExtend 16
    let iyd := s.iy + d.signExtend 16
    q ∈ [(Instr.rlcMHL, Rot.rlc, hl, [], 15), (.rrcMHL, .rrc, hl, [], 15), (.rlMHL, .rl, hl, [], 15),
      (.rrMHL, .rr, hl, [], 15), (.slaMHL, .sla, hl, [], 15), (.sraMHL, .sra, hl, [], 15), (.sllMHL, .sll, hl, [], 15),
      (.srlMHL, .srl, hl, [], 15),
      (.rlcMIX d, .rlc, ixd, [], 23), (.rrcMIX d, .rrc, ixd, [], 23), (.rlMIX d, .rl, ixd, [], 23),
      (.rrMIX d, .rr, ixd, [], 23), (.slaMIX d, .sla, ixd, [], 23), (.sraMIX d, .sra, ixd, [], 23),
      (.sllMIX d, .sll, ixd, [], 23), (.srlMIX d, .srl, ixd, [], 23),
      (.rlcMIY d, .rlc, iyd, [], 23), (.rrcMIY d, .rrc, iyd, [], 23), (.rlMIY d, .rl, iyd, [], 23),
      (.rrMIY d, .rr, iyd, [], 23), (.slaMIY d, .sla, iyd, [], 23), (.sraMIY d, .sra, iyd, [], 23),
      (.sllMIY d, .sll, iyd, [], 23), (.srlMIY d, .srl, iyd, [], 23),
      (.rotMIXR rot d r, rot, ixd, [regPart r], 23), (.rotMIYR rot d r, rot, iyd, [regPart r], 23)] →
    ∃ t w, exec q.1 s = .next t ∧ t.cost = q.2.2.2.2 ∧
      BitVec.toNat w = shiftedNat q.2.1 (s.memRead q.2.2.1).toNat (s.main.f.getLsbD 0).toNat ∧
      s.bus.storesByte t.bus q.2.2.1 w ∧ (q.2.2.2.1 ≠ [] → t.reg r = w) ∧
      flagBits t.main.f (w.getLsbD 7) (decide (w = 0#8)) (w.getLsbD 5) false (w.getLsbD 3) (decide (ones w % 2 = 0)) false
        (shiftedOut q.2.1 (s.memRead q.2.2.1).toNat) ∧
      s.changesOnly t (.bus :: .f :: q.2.2.2.1)

/-- `BIT` on every operand form: the flags; F.Y and F.X of the `(HL)` form are free (rule R286, log 7), and the draw is the
only other change. -/
def Obligations.BitTest : Prop :=
  ∀ (s : State) (b z : BitVec 3) (r : Reg8) (d : Byte),
    let f := s.main.f
    let sign := fun v : Byte => decide (b = 7#3) && v.getLsbD b.toNat
    let zero := fun v : Byte => !v.getLsbD b.toNat
    (∃ t, exec (.bitR b r) s = .next t ∧ t.cost = 8 ∧
      flagBits t.main.f (sign (s.reg r)) (zero (s.reg r)) ((s.reg r).getLsbD 5) true ((s.reg r).getLsbD 3)
        (zero (s.reg r)) false (f.getLsbD 0) ∧
      s.changesOnly t [.f]) ∧
    (let v := s.memRead (mkWord s.main.h s.main.l)
     ∃ t free, exec (.bitMHL b) s = .next t ∧ t.cost = 12 ∧
      flagBits t.main.f (sign v) (zero v) (BitVec.getLsbD free 5) true (BitVec.getLsbD (w := 8) free 3) (zero v) false
        (f.getLsbD 0) ∧
      s.changesOnly t [.f, .draws]) ∧
    (∀ q ∈ [(Instr.bitMIX b d z, s.ix + d.signExtend 16), (Instr.bitMIY b d z, s.iy + d.signExtend 16)],
      let v := s.memRead q.2
      ∃ t, exec q.1 s = .next t ∧ t.cost = 20 ∧
        flagBits t.main.f (sign v) (zero v) (q.2.getLsbD 13) true (q.2.getLsbD 11) (zero v) false (f.getLsbD 0) ∧
        s.changesOnly t [.f])

/-- `SET` and `RES` on every operand form, the copy forms included: bit `b` of the byte written, every other bit and
everything else kept. -/
def Obligations.BitSetReset : Prop :=
  ∀ (s : State) (b : BitVec 3) (r : Reg8) (d : Byte),
    let changed := fun (v w : Byte) (one : Bool) => ∀ k, k < 8 → w.getLsbD k = if k = b.toNat then one else v.getLsbD k
    (∀ q ∈ [(Instr.setR b r, true), (Instr.resR b r, false)],
      ∃ t, exec q.1 s = .next t ∧ t.cost = 8 ∧ changed (s.reg r) (t.reg r) q.2 ∧ s.changesOnly t [regPart r]) ∧
    (∀ q : Instr × Bool × Word × List Part × Nat,
      q ∈ [(Instr.setMHL b, true, mkWord s.main.h s.main.l, [], 15),
        (.resMHL b, false, mkWord s.main.h s.main.l, [], 15),
        (.setMIX b d, true, s.ix + d.signExtend 16, [], 23), (.resMIX b d, false, s.ix + d.signExtend 16, [], 23),
        (.setMIY b d, true, s.iy + d.signExtend 16, [], 23), (.resMIY b d, false, s.iy + d.signExtend 16, [], 23),
        (.setMIXR b d r, true, s.ix + d.signExtend 16, [regPart r], 23),
        (.resMIXR b d r, false, s.ix + d.signExtend 16, [regPart r], 23),
        (.setMIYR b d r, true, s.iy + d.signExtend 16, [regPart r], 23),
        (.resMIYR b d r, false, s.iy + d.signExtend 16, [regPart r], 23)] →
      ∃ t w, exec q.1 s = .next t ∧ t.cost = q.2.2.2.2 ∧ changed (s.memRead q.2.2.1) w q.2.1 ∧
        s.bus.storesByte t.bus q.2.2.1 w ∧ (q.2.2.2.1 ≠ [] → t.reg r = w) ∧ s.changesOnly t (.bus :: q.2.2.2.1))

/-- `RLD` and `RRD`: the digits of A and of the byte at HL, the flags from the new A. -/
def Obligations.DigitRotates : Prop :=
  ∀ s : State,
    let hl := mkWord s.main.h s.main.l
    let a := s.main.a.toNat
    let m := (s.memRead hl).toNat
    ∀ q ∈ [(Instr.rld, a / 16 * 16 + m / 16, m % 16 * 16 + a % 16),
      (Instr.rrd, a / 16 * 16 + m % 16, a % 16 * 16 + m / 16)],
      ∃ t w, exec q.1 s = .next t ∧ t.cost = 18 ∧ t.main.a.toNat = q.2.1 ∧ BitVec.toNat w = q.2.2 ∧
        s.bus.storesByte t.bus hl w ∧
        flagBits t.main.f (t.main.a.getLsbD 7) (decide (t.main.a = 0#8)) (t.main.a.getLsbD 5) false (t.main.a.getLsbD 3)
          (decide (ones t.main.a % 2 = 0)) false (s.main.f.getLsbD 0) ∧
        s.changesOnly t [.a, .f, .bus]

/-! Jumps, calls and returns (45_jump_call_return.md). -/

/-- The jumps, with the condition table (rule R315) and the relative target (rule R303): PC, the cost taken and not taken,
B for `DJNZ`; nothing else changes. -/
def Obligations.Jumps : Prop :=
  ∀ (s : State) (px : Pfx) (cc : Cond) (nn : Word) (e : Byte),
    let f := s.main.f
    let holds := s.flags.holds cc
    let next := s.pc.toNat
    let near := ((next : Int) + e.toInt) % 65536
    (cc = .nz → holds = !f.getLsbD 6) ∧ (cc = .z → holds = f.getLsbD 6) ∧ (cc = .nc → holds = !f.getLsbD 0) ∧
    (cc = .c → holds = f.getLsbD 0) ∧ (cc = .po → holds = !f.getLsbD 2) ∧ (cc = .pe → holds = f.getLsbD 2) ∧
    (cc = .p → holds = !f.getLsbD 7) ∧ (cc = .m → holds = f.getLsbD 7) ∧
    (∀ q : Instr × Int × Nat,
      q ∈ [(Instr.jp px nn, (nn.toNat : Int), 10 + px.extra),
        (.jpCC px cc nn, if holds then (nn.toNat : Int) else next, 10 + px.extra),
        (.jpHL, 256 * s.main.h.toNat + s.main.l.toNat, 4), (.jpIX, s.ix.toNat, 8), (.jpIY, s.iy.toNat, 8),
        (.jr px e, near, 12 + px.extra),
        (.jrCC px cc e, if holds then near else next, (if holds then 12 else 7) + px.extra)] →
      ∃ t, exec q.1 s = .next t ∧ t.cost = q.2.2 ∧ (t.pc.toNat : Int) = q.2.1 ∧ s.changesOnly t [.pc]) ∧
    (∃ t, exec (.djnz px e) s = .next t ∧ t.main.b.toNat = (s.main.b.toNat + 255) % 256 ∧
      (s.main.b ≠ 1#8 → (t.pc.toNat : Int) = near ∧ t.cost = 13 + px.extra) ∧
      (s.main.b = 1#8 → t.pc = s.pc ∧ t.cost = 8 + px.extra) ∧ s.changesOnly t [.pc, .b])

/-- `CALL`, `CALL cc` and `RST`: the return address pushed, the target, the cost; a call not taken changes nothing. -/
def Obligations.Calls : Prop :=
  ∀ (s : State) (px : Pfx) (cc : Cond) (nn : Word) (y : BitVec 3),
    (∀ q : Instr × Bool × Nat × Nat,
      q ∈ [(Instr.call px nn, true, nn.toNat, 17 + px.extra), (.callCC px cc nn, s.flags.holds cc, nn.toNat, 17 + px.extra),
        (.rst px y, true, y.toNat * 8, 11 + px.extra)] → q.2.1 = true →
      ∃ t, exec q.1 s = .next t ∧ t.cost = q.2.2.2 ∧ t.pc.toNat = q.2.2.1 ∧ t.sp = s.sp - 2#16 ∧
        s.bus.storesWord t.bus (s.sp - 2#16) (hiByte s.pc) (loByte s.pc) ∧ s.changesOnly t [.pc, .sp, .bus]) ∧
    (s.flags.holds cc = false →
      ∃ t, exec (.callCC px cc nn) s = .next t ∧ t.cost = 10 + px.extra ∧ s.changesOnly t [])

/-- The returns and the pops: the value read from the stack, SP, IFF1 from IFF2 for `RETN` and `RETI`, the cost; memory is
only read. -/
def Obligations.ReturnsAndPops : Prop :=
  ∀ (s : State) (px : Pfx) (cc : Cond) (y : BitVec 3) (k : Stk16),
    let top := 256 * (s.memRead (s.sp + 1#16)).toNat + (s.memRead s.sp).toNat
    (∀ q : Instr × Bool × Bool × Nat,
      q ∈ [(Instr.ret px, true, s.iff1, 10 + px.extra), (.retCC px cc, s.flags.holds cc, s.iff1, 11 + px.extra),
        (.reti, true, s.iff2, 14), (.retn, true, s.iff2, 14), (.retnDup y, true, s.iff2, 14)] → q.2.1 = true →
      ∃ t, exec q.1 s = .next t ∧ t.cost = q.2.2.2 ∧ t.pc.toNat = top ∧ t.sp = s.sp + 2#16 ∧ t.iff1 = q.2.2.1 ∧
        s.changesOnly t [.pc, .sp, .iff1]) ∧
    (s.flags.holds cc = false → ∃ t, exec (.retCC px cc) s = .next t ∧ t.cost = 5 + px.extra ∧ s.changesOnly t []) ∧
    (∀ q : Instr × (State → Word) × List Part × Nat,
      q ∈ [(Instr.popRp2 px k, (State.stk · k), stkParts k, 10 + px.extra), (.popIX, State.ix, [.ix], 14),
        (.popIY, State.iy, [.iy], 14)] →
      ∃ t, exec q.1 s = .next t ∧ t.cost = q.2.2.2 ∧ (q.2.1 t).toNat = top ∧ t.sp = s.sp + 2#16 ∧
        s.changesOnly t (.sp :: q.2.2.1))

/-! Block instructions (46_block.md). -/

/-- The block transfers: the byte moved, the three registers, the flags of `ldflags` (rule R331), and the repeat of rule
R332. -/
def Obligations.BlockTransfer : Prop :=
  ∀ (s : State) (q : Instr × Int × Bool),
    q ∈ [(Instr.ldi, 1, false), (.ldd, -1, false), (.ldir, 1, true), (.lddr, -1, true)] →
    let hl := mkWord s.main.h s.main.l
    let de := mkWord s.main.d s.main.e
    let bc := mkWord s.main.b s.main.c
    let v := s.memRead hl
    let n := v + s.main.a
    let f := s.main.f
    let again := q.2.2 && decide (bc ≠ 1#16)
    ∃ t, exec q.1 s = .next t ∧ s.bus.storesByte t.bus de v ∧
      ((t.pair .hl).toNat : Int) = (hl.toNat + q.2.1) % 65536 ∧ ((t.pair .de).toNat : Int) = (de.toNat + q.2.1) % 65536 ∧
      (t.pair .bc).toNat = (bc.toNat + 65535) % 65536 ∧
      flagBits t.main.f (f.getLsbD 7) (f.getLsbD 6) (n.getLsbD 1) false (n.getLsbD 3) (decide (bc ≠ 1#16)) false
        (f.getLsbD 0) ∧
      t.pc = (if again then s.pc - 2#16 else s.pc) ∧ t.cost = (if again then 21 else 16) ∧
      s.changesOnly t [.b, .c, .d, .e, .h, .l, .f, .bus, .pc]

/-- The block searches: the two registers, the flags of `cpflags` (rule R331), and the repeat that ends at a match or at
the end of the count. -/
def Obligations.BlockSearch : Prop :=
  ∀ (s : State) (q : Instr × Int × Bool),
    q ∈ [(Instr.cpi, 1, false), (.cpd, -1, false), (.cpir, 1, true), (.cpdr, -1, true)] →
    let hl := mkWord s.main.h s.main.l
    let bc := mkWord s.main.b s.main.c
    let v := s.memRead hl
    let a := s.main.a
    let half := decide (a.toNat % 16 < v.toNat % 16)
    let n := a - v - BitVec.ofNat 8 half.toNat
    let again := q.2.2 && decide (bc ≠ 1#16) && decide (a ≠ v)
    ∃ t, exec q.1 s = .next t ∧
      ((t.pair .hl).toNat : Int) = (hl.toNat + q.2.1) % 65536 ∧ (t.pair .bc).toNat = (bc.toNat + 65535) % 65536 ∧
      flagBits t.main.f ((a - v).getLsbD 7) (decide (a = v)) (n.getLsbD 1) half (n.getLsbD 3) (decide (bc ≠ 1#16)) true
        (s.main.f.getLsbD 0) ∧
      t.pc = (if again then s.pc - 2#16 else s.pc) ∧ t.cost = (if again then 21 else 16) ∧
      s.changesOnly t [.b, .c, .h, .l, .f, .pc]

/-- Block input and output: the byte moved between port C and memory, HL, B, F.Z from the decremented B and every other
flag free (rule R349, log 7), and the repeat. -/
def Obligations.BlockPorts : Prop :=
  ∀ s : State,
    let hl := mkWord s.main.h s.main.l
    let last := decide (s.main.b = 1#8)
    (∀ q : Instr × Int × Bool,
      q ∈ [(Instr.ini, 1, false), (.ind, -1, false), (.inir, 1, true), (.indr, -1, true)] →
      ∃ t, exec q.1 s = .next t ∧ s.bus.storesByte t.bus hl (s.ioRead s.main.c).1 ∧
        t.vdp = (s.ioRead s.main.c).2.vdp ∧
        ((t.pair .hl).toNat : Int) = (hl.toNat + q.2.1) % 65536 ∧ t.main.b.toNat = (s.main.b.toNat + 255) % 256 ∧
        t.main.f.getLsbD 6 = last ∧
        t.pc = (if q.2.2 && !last then s.pc - 2#16 else s.pc) ∧ t.cost = (if q.2.2 && !last then 21 else 16) ∧
        s.changesOnly t [.b, .h, .l, .f, .bus, .vdp, .draws, .pc]) ∧
    (∀ q : Instr × Int × Bool,
      q ∈ [(Instr.outi, 1, false), (.outd, -1, false), (.otir, 1, true), (.otdr, -1, true)] →
      let o := s.ioWrite s.main.c (s.memRead hl)
      ∃ t, exec q.1 s = .next t ∧ t.bus = o.bus ∧ t.vdp = o.vdp ∧ t.psg = o.psg ∧
        ((t.pair .hl).toNat : Int) = (hl.toNat + q.2.1) % 65536 ∧ t.main.b.toNat = (s.main.b.toNat + 255) % 256 ∧
        t.main.f.getLsbD 6 = last ∧
        t.pc = (if q.2.2 && !last then s.pc - 2#16 else s.pc) ∧ t.cost = (if q.2.2 && !last then 21 else 16) ∧
        (∀ a, t.memRead a = s.memRead a) ∧
        s.changesOnly t [.b, .h, .l, .f, .bus, .vdp, .psg, .draws, .pc])

/-! Input and output (47_io.md), control (48_cpu_control.md). -/

/-- `IN` and `OUT`: the register, the flags of the `(C)` forms, the one port access, the cost; memory reads as before. -/
def Obligations.PortInstructions : Prop :=
  ∀ (s : State) (px : Pfx) (r : Reg8) (n : Byte),
    let v := (s.ioRead s.main.c).1
    let seen := (s.ioRead s.main.c).2
    let flags := fun f : Byte => flagBits f (v.getLsbD 7) (decide (v = 0#8)) (v.getLsbD 5) false (v.getLsbD 3)
      (decide (ones v % 2 = 0)) false (s.main.f.getLsbD 0)
    (∃ t, exec (.inAN px n) s = .next t ∧ t.cost = 11 + px.extra ∧ t.main.a = (s.ioRead n).1 ∧
      t.vdp = (s.ioRead n).2.vdp ∧ s.changesOnly t [.a, .vdp, .draws]) ∧
    (∃ t, exec (.inRC r) s = .next t ∧ t.cost = 12 ∧ t.reg r = v ∧ flags t.main.f ∧ t.vdp = seen.vdp ∧
      s.changesOnly t [regPart r, .f, .vdp, .draws]) ∧
    (∃ t, exec .inC s = .next t ∧ t.cost = 12 ∧ flags t.main.f ∧ t.vdp = seen.vdp ∧ s.changesOnly t [.f, .vdp, .draws]) ∧
    (∀ q : Instr × Byte × Byte × Nat,
      q ∈ [(Instr.outNA px n, n, s.main.a, 11 + px.extra), (.outCR r, s.main.c, s.reg r, 12),
        (.outC0, s.main.c, 0x00#8, 12)] →
      let o := s.ioWrite q.2.1 q.2.2.1
      ∃ t, exec q.1 s = .next t ∧ t.cost = q.2.2.2 ∧ t.bus = o.bus ∧ t.vdp = o.vdp ∧ t.psg = o.psg ∧
        (∀ a, t.memRead a = s.memRead a) ∧ s.changesOnly t [.bus, .vdp, .psg])

/-- The control instructions and the artefacts of decoding: `NOP`, `HALT`, `DI`, `IM`, the `ED` no-operations, the
undefined extended opcodes under both values of ED_UNDEFINED, the prefix no-ops. -/
def Obligations.ControlInstructions : Prop :=
  ∀ (s : State) (px : Pfx) (op : Byte) (y : BitVec 3) (x x' : Idx),
    (∃ t, exec (.nop px) s = .next t ∧ t.cost = 4 + px.extra ∧ s.changesOnly t []) ∧
    (∃ t, exec (.nopED y) s = .next t ∧ t.cost = 8 ∧ s.changesOnly t []) ∧
    (∃ t, exec (.halt px) s = .next t ∧ t.cost = 4 + px.extra ∧ t.halted = true ∧ s.changesOnly t [.halted]) ∧
    (∃ t, exec (.di px) s = .next t ∧ t.cost = 4 + px.extra ∧ t.iff1 = false ∧ t.iff2 = false ∧
      s.changesOnly t [.iff1, .iff2]) ∧
    (∀ q ∈ [(Instr.im0, IntMode.im0), (Instr.im0Dup y, .im0), (Instr.im1, .im1), (Instr.im1Dup, .im1),
        (Instr.im2, .im2), (Instr.im2Dup, .im2)],
      ∃ t, exec q.1 s = .next t ∧ t.cost = 8 ∧ t.im = q.2 ∧ s.changesOnly t [.im]) ∧
    (∃ t, exec (.undefinedED op) s = .next t ∧ t.cost = 8 ∧
      (s.cfg.edUndefined = .nop → s.changesOnly t []) ∧
      (s.cfg.edUndefined = .sourceNoni → t.iff1 = false ∧ t.iff2 = false ∧ t.eiPending = true ∧
        s.changesOnly t [.iff1, .iff2, .eiPending])) ∧
    (∀ i ∈ [Instr.prefixNop x x', Instr.prefixBeforeED x],
      i.size = 2 ∧ ∃ t, exec i s = .next t ∧ t.cost = 4 ∧ t.pc = s.pc - 1#16 ∧ s.changesOnly t [.pc])
end

