-- ==== Sys2Proof/Laws/Memory.lean ====
section
/-! SUPPORT. The laws of the stores: a read after a write, and the canonical form, which every operation keeps and which
makes equal stores equal data. -/

namespace Sys2Proof.Machine

theorem Memory.read_erase_self (st : Store) (m : Memory) (a : Nat) :
    Memory.read st (Memory.erase a m) a = unlisted st := by
  induction m with
  | nil => rfl
  | cons c m ih =>
    obtain ⟨k, w⟩ := c
    by_cases hk : k = a
    · simpa [Memory.erase, hk] using ih
    · simpa [Memory.erase, Memory.read, hk] using ih

theorem Memory.read_erase_other (st : Store) (m : Memory) {a b : Nat} (h : b ≠ a) :
    Memory.read st (Memory.erase a m) b = Memory.read st m b := by
  induction m with
  | nil => rfl
  | cons c m ih =>
    obtain ⟨k, w⟩ := c
    by_cases hk : k = a
    · have hkb : k ≠ b := fun e => h (e.symm.trans hk)
      simpa [Memory.erase, Memory.read, hk, hkb, h.symm] using ih
    · simp only [Memory.erase, if_neg hk, Memory.read, ih]

theorem Memory.not_mem_erase (m : Memory) (a : Nat) (w : Byte) : (a, w) ∉ Memory.erase a m := by
  induction m with
  | nil => simp [Memory.erase]
  | cons c m ih =>
    obtain ⟨k, v⟩ := c
    by_cases hk : k = a
    · simpa [Memory.erase, hk] using ih
    · simp [Memory.erase, hk, ih, Ne.symm hk]

theorem Memory.read_insert_self (st : Store) (m : Memory) (a : Nat) (v : Byte)
    (h : ∀ w, (a, w) ∉ m) : Memory.read st (Memory.insert a v m) a = v := by
  induction m with
  | nil => simp [Memory.insert, Memory.read]
  | cons c m ih =>
    obtain ⟨k, w⟩ := c
    have hk : k ≠ a := fun e => h w (by simp [e])
    by_cases hlt : a < k
    · simp [Memory.insert, Memory.read, hlt]
    · simpa [Memory.insert, Memory.read, hlt, hk] using
        ih fun w hw => h w (List.mem_cons_of_mem _ hw)

theorem Memory.read_insert_other (st : Store) (m : Memory) {a b : Nat} (v : Byte) (h : b ≠ a) :
    Memory.read st (Memory.insert a v m) b = Memory.read st m b := by
  induction m with
  | nil => simp [Memory.insert, Memory.read, h.symm]
  | cons c m ih =>
    obtain ⟨k, w⟩ := c
    by_cases hlt : a < k
    · simp [Memory.insert, Memory.read, hlt, h.symm]
    · simp [Memory.insert, Memory.read, hlt, ih]

/-- A read after a write to the same address gives the byte written. -/
theorem Memory.read_write_self (st : Store) (m : Memory) (a : Nat) (v : Byte) :
    Memory.read st (Memory.write st m a v) a = v := by
  unfold Memory.write
  split
  · next h => rw [Memory.read_erase_self, h]
  · exact Memory.read_insert_self st _ a v fun w => Memory.not_mem_erase m a w

/-- A write leaves every other address alone. -/
theorem Memory.read_write_other (st : Store) (m : Memory) {a b : Nat} (v : Byte) (h : b ≠ a) :
    Memory.read st (Memory.write st m a v) b = Memory.read st m b := by
  unfold Memory.write
  split
  · exact Memory.read_erase_other st m h
  · rw [Memory.read_insert_other st _ v h, Memory.read_erase_other st m h]

theorem Memory.read_write (st : Store) (m : Memory) (a b : Nat) (v : Byte) :
    Memory.read st (Memory.write st m a v) b = if b = a then v else Memory.read st m b := by
  split
  · next h => rw [h, Memory.read_write_self]
  · next h => exact Memory.read_write_other st m v h

/-! The canonical form. -/

theorem Memory.wfFrom_cons (st : Store) (bound lo k : Nat) (v : Byte) (m : Memory) :
    Memory.wfFrom st bound lo ((k, v) :: m) = true ↔
      lo ≤ k ∧ k < bound ∧ v ≠ unlisted st ∧ Memory.wfFrom st bound (k + 1) m = true := by
  simp [Memory.wfFrom, and_assoc]

theorem Memory.wfFrom_mono {st : Store} {bound lo lo' : Nat} {m : Memory} (h : lo' ≤ lo)
    (hm : Memory.wfFrom st bound lo m = true) : Memory.wfFrom st bound lo' m = true := by
  cases m with
  | nil => rfl
  | cons c m =>
    obtain ⟨k, v⟩ := c
    rw [Memory.wfFrom_cons] at hm ⊢
    exact ⟨h.trans hm.1, hm.2⟩

theorem Memory.wfFrom_erase {st : Store} {bound : Nat} (a : Nat) :
    ∀ {lo : Nat} {m : Memory}, Memory.wfFrom st bound lo m = true →
      Memory.wfFrom st bound lo (Memory.erase a m) = true
  | _, [], _ => rfl
  | lo, (k, v) :: m, h => by
    rw [Memory.wfFrom_cons] at h
    have ih := Memory.wfFrom_erase a h.2.2.2
    by_cases hk : k = a
    · simpa [Memory.erase, hk] using Memory.wfFrom_mono (h.1.trans (Nat.le_succ k)) (hk ▸ ih)
    · simp only [Memory.erase, hk, if_false]
      exact (Memory.wfFrom_cons ..).2 ⟨h.1, h.2.1, h.2.2.1, ih⟩

theorem Memory.wfFrom_insert {st : Store} {bound a : Nat} {v : Byte} (ha : a < bound) (hv : v ≠ unlisted st) :
    ∀ {lo : Nat} {m : Memory}, lo ≤ a → (∀ w, (a, w) ∉ m) → Memory.wfFrom st bound lo m = true →
      Memory.wfFrom st bound lo (Memory.insert a v m) = true
  | lo, [], hlo, _, _ => by simp [Memory.insert, Memory.wfFrom, hlo, ha, hv]
  | lo, (k, w) :: m, hlo, hm, h => by
    rw [Memory.wfFrom_cons] at h
    have hk : k ≠ a := fun e => hm w (by simp [e])
    by_cases hlt : a < k
    · simp only [Memory.insert, hlt, if_true]
      exact (Memory.wfFrom_cons ..).2 ⟨hlo, ha, hv, (Memory.wfFrom_cons ..).2 ⟨hlt, h.2⟩⟩
    · simp only [Memory.insert, hlt, if_false]
      exact (Memory.wfFrom_cons ..).2 ⟨h.1, h.2.1, h.2.2.1,
        Memory.wfFrom_insert ha hv (by omega) (fun w hw => hm w (List.mem_cons_of_mem _ hw)) h.2.2.2⟩

/-- Every write inside the bound keeps the canonical form. -/
theorem Memory.wf_write {st : Store} {bound a : Nat} {v : Byte} {m : Memory} (ha : a < bound)
    (h : Memory.wf st bound m = true) : Memory.wf st bound (Memory.write st m a v) = true := by
  unfold Memory.wf Memory.write at *
  split
  · exact Memory.wfFrom_erase a h
  · next hv =>
    exact Memory.wfFrom_insert ha hv (Nat.zero_le a) (fun w => Memory.not_mem_erase m a w) (Memory.wfFrom_erase a h)

/-- In canonical form an address below the first listed one is not listed. -/
theorem Memory.read_below {st : Store} {bound : Nat} :
    ∀ {lo : Nat} {m : Memory} {a : Nat}, Memory.wfFrom st bound lo m = true → a < lo →
      Memory.read st m a = unlisted st
  | _, [], _, _, _ => rfl
  | lo, (k, v) :: m, a, h, ha => by
    rw [Memory.wfFrom_cons] at h
    have hk : k ≠ a := by omega
    simpa [Memory.read, hk] using Memory.read_below (a := a) h.2.2.2 (by omega)

/-- Canonical stores that read alike are equal data. -/
theorem Memory.wf_ext {st : Store} {bound : Nat} :
    ∀ {lo : Nat} {m n : Memory}, Memory.wfFrom st bound lo m = true → Memory.wfFrom st bound lo n = true →
      (∀ a, Memory.read st m a = Memory.read st n a) → m = n
  | _, [], [], _, _, _ => rfl
  | lo, [], (k, v) :: n, _, hn, h => by
    rw [Memory.wfFrom_cons] at hn
    exact absurd (by simpa [Memory.read] using (h k).symm) hn.2.2.1
  | lo, (k, v) :: m, [], hm, _, h => by
    rw [Memory.wfFrom_cons] at hm
    exact absurd (by simpa [Memory.read] using h k) hm.2.2.1
  | lo, (k, v) :: m, (j, w) :: n, hm, hn, h => by
    have hm' := (Memory.wfFrom_cons ..).1 hm
    have hn' := (Memory.wfFrom_cons ..).1 hn
    have hkj : k = j := by
      rcases Nat.lt_trichotomy k j with hlt | heq | hlt
      · have := h k
        rw [Memory.read_below ((Memory.wfFrom_cons ..).2 ⟨le_refl j, hn'.2⟩) hlt] at this
        exact absurd (by simpa [Memory.read] using this) hm'.2.2.1
      · exact heq
      · have := h j
        rw [Memory.read_below ((Memory.wfFrom_cons ..).2 ⟨le_refl k, hm'.2⟩) hlt] at this
        exact absurd (by simpa [Memory.read] using this.symm) hn'.2.2.1
    subst hkj
    have hvw : v = w := by simpa [Memory.read] using h k
    subst hvw
    have := Memory.wf_ext hm'.2.2.2 hn'.2.2.2 fun a => by
      by_cases ha : a < k + 1
      · rw [Memory.read_below hm'.2.2.2 ha, Memory.read_below hn'.2.2.2 ha]
      · have hk : k ≠ a := by omega
        simpa [Memory.read, hk] using h a
    rw [this]

/-- Writing back what is there changes nothing. -/
theorem Memory.write_read {st : Store} {bound a : Nat} {m : Memory} (ha : a < bound)
    (h : Memory.wf st bound m = true) : Memory.write st m a (Memory.read st m a) = m :=
  Memory.wf_ext (Memory.wf_write ha h) h fun b => by
    rw [Memory.read_write]
    split
    · next e => rw [e]
    · rfl

/-! A store made from a list of bytes. -/

theorem Memory.read_ofBytes_below (st : Store) : ∀ (bs : List Byte) (a b : Nat), b < a →
    Memory.read st (Memory.ofBytes st a bs) b = unlisted st
  | [], _, _, _ => rfl
  | v :: bs, a, b, h => by
    have ih := Memory.read_ofBytes_below st bs (a + 1) b (by omega)
    have hab : a ≠ b := by omega
    by_cases hv : v = unlisted st
    · simpa [Memory.ofBytes, hv] using ih
    · simpa [Memory.ofBytes, hv, Memory.read, hab] using ih

theorem Memory.read_ofBytes (st : Store) : ∀ (bs : List Byte) (a k : Nat),
    Memory.read st (Memory.ofBytes st a bs) (a + k) = bs.getD k (unlisted st)
  | [], _, _ => rfl
  | v :: bs, a, 0 => by
    by_cases hv : v = unlisted st
    · simpa [Memory.ofBytes, hv] using Memory.read_ofBytes_below st bs (a + 1) a (by omega)
    · simp [Memory.ofBytes, hv, Memory.read]
  | v :: bs, a, k + 1 => by
    have ih := Memory.read_ofBytes st bs (a + 1) k
    have e : a + (k + 1) = a + 1 + k := by omega
    have hk : a ≠ a + 1 + k := by omega
    rw [e]
    by_cases hv : v = unlisted st
    · simpa [Memory.ofBytes, hv] using ih
    · simpa [Memory.ofBytes, hv, Memory.read, hk] using ih

theorem Memory.wfFrom_ofBytes (st : Store) (bound : Nat) : ∀ (bs : List Byte) (a lo : Nat),
    lo ≤ a → a + bs.length ≤ bound → Memory.wfFrom st bound lo (Memory.ofBytes st a bs) = true
  | [], _, _, _, _ => rfl
  | v :: bs, a, lo, hlo, hb => by
    simp only [List.length_cons] at hb
    by_cases hv : v = unlisted st
    · simpa [Memory.ofBytes, hv] using Memory.wfFrom_ofBytes st bound bs (a + 1) lo (by omega) (by omega)
    · simp only [Memory.ofBytes, hv, if_false]
      exact (Memory.wfFrom_cons ..).2 ⟨hlo, by omega, hv,
        Memory.wfFrom_ofBytes st bound bs (a + 1) (a + 1) (le_refl _) (by omega)⟩

end Sys2Proof.Machine
end

