-- ==== Sys2Proof/Laws/State.lean ====
section
/-! SUPPORT. The state record: for every update of the model, what each field is after it. -/

namespace Sys2Proof.Machine

variable (s : State)

/-! `State.setA`. -/

@[simp] theorem State.setA_main (v : Byte) : (s.setA v).main = { s.main with a := v } := rfl
@[simp] theorem State.setA_shadow (v : Byte) : (s.setA v).shadow = s.shadow := rfl
@[simp] theorem State.setA_ix (v : Byte) : (s.setA v).ix = s.ix := rfl
@[simp] theorem State.setA_iy (v : Byte) : (s.setA v).iy = s.iy := rfl
@[simp] theorem State.setA_sp (v : Byte) : (s.setA v).sp = s.sp := rfl
@[simp] theorem State.setA_pc (v : Byte) : (s.setA v).pc = s.pc := rfl
@[simp] theorem State.setA_i (v : Byte) : (s.setA v).i = s.i := rfl
@[simp] theorem State.setA_r (v : Byte) : (s.setA v).r = s.r := rfl
@[simp] theorem State.setA_iff1 (v : Byte) : (s.setA v).iff1 = s.iff1 := rfl
@[simp] theorem State.setA_iff2 (v : Byte) : (s.setA v).iff2 = s.iff2 := rfl
@[simp] theorem State.setA_im (v : Byte) : (s.setA v).im = s.im := rfl
@[simp] theorem State.setA_halted (v : Byte) : (s.setA v).halted = s.halted := rfl
@[simp] theorem State.setA_eiPending (v : Byte) : (s.setA v).eiPending = s.eiPending := rfl
@[simp] theorem State.setA_nmiReq (v : Byte) : (s.setA v).nmiReq = s.nmiReq := rfl
@[simp] theorem State.setA_bus (v : Byte) : (s.setA v).bus = s.bus := rfl
@[simp] theorem State.setA_vdp (v : Byte) : (s.setA v).vdp = s.vdp := rfl
@[simp] theorem State.setA_psg (v : Byte) : (s.setA v).psg = s.psg := rfl
@[simp] theorem State.setA_cfg (v : Byte) : (s.setA v).cfg = s.cfg := rfl
@[simp] theorem State.setA_cost (v : Byte) : (s.setA v).cost = s.cost := rfl
@[simp] theorem State.setA_draws (v : Byte) : (s.setA v).draws = s.draws := rfl
@[simp] theorem State.setA_notices (v : Byte) : (s.setA v).notices = s.notices := rfl

/-! `State.setFlags`. -/

@[simp] theorem State.setFlags_main (fl : Flags) : (s.setFlags fl).main = { s.main with f := fl.toByte } := rfl
@[simp] theorem State.setFlags_shadow (fl : Flags) : (s.setFlags fl).shadow = s.shadow := rfl
@[simp] theorem State.setFlags_ix (fl : Flags) : (s.setFlags fl).ix = s.ix := rfl
@[simp] theorem State.setFlags_iy (fl : Flags) : (s.setFlags fl).iy = s.iy := rfl
@[simp] theorem State.setFlags_sp (fl : Flags) : (s.setFlags fl).sp = s.sp := rfl
@[simp] theorem State.setFlags_pc (fl : Flags) : (s.setFlags fl).pc = s.pc := rfl
@[simp] theorem State.setFlags_i (fl : Flags) : (s.setFlags fl).i = s.i := rfl
@[simp] theorem State.setFlags_r (fl : Flags) : (s.setFlags fl).r = s.r := rfl
@[simp] theorem State.setFlags_iff1 (fl : Flags) : (s.setFlags fl).iff1 = s.iff1 := rfl
@[simp] theorem State.setFlags_iff2 (fl : Flags) : (s.setFlags fl).iff2 = s.iff2 := rfl
@[simp] theorem State.setFlags_im (fl : Flags) : (s.setFlags fl).im = s.im := rfl
@[simp] theorem State.setFlags_halted (fl : Flags) : (s.setFlags fl).halted = s.halted := rfl
@[simp] theorem State.setFlags_eiPending (fl : Flags) : (s.setFlags fl).eiPending = s.eiPending := rfl
@[simp] theorem State.setFlags_nmiReq (fl : Flags) : (s.setFlags fl).nmiReq = s.nmiReq := rfl
@[simp] theorem State.setFlags_bus (fl : Flags) : (s.setFlags fl).bus = s.bus := rfl
@[simp] theorem State.setFlags_vdp (fl : Flags) : (s.setFlags fl).vdp = s.vdp := rfl
@[simp] theorem State.setFlags_psg (fl : Flags) : (s.setFlags fl).psg = s.psg := rfl
@[simp] theorem State.setFlags_cfg (fl : Flags) : (s.setFlags fl).cfg = s.cfg := rfl
@[simp] theorem State.setFlags_cost (fl : Flags) : (s.setFlags fl).cost = s.cost := rfl
@[simp] theorem State.setFlags_draws (fl : Flags) : (s.setFlags fl).draws = s.draws := rfl
@[simp] theorem State.setFlags_notices (fl : Flags) : (s.setFlags fl).notices = s.notices := rfl

/-! `State.setReg`. -/

@[simp] theorem State.setReg_main (r : Reg8) (v : Byte) : (s.setReg r v).main = s.main.set r v := rfl
@[simp] theorem State.setReg_shadow (r : Reg8) (v : Byte) : (s.setReg r v).shadow = s.shadow := rfl
@[simp] theorem State.setReg_ix (r : Reg8) (v : Byte) : (s.setReg r v).ix = s.ix := rfl
@[simp] theorem State.setReg_iy (r : Reg8) (v : Byte) : (s.setReg r v).iy = s.iy := rfl
@[simp] theorem State.setReg_sp (r : Reg8) (v : Byte) : (s.setReg r v).sp = s.sp := rfl
@[simp] theorem State.setReg_pc (r : Reg8) (v : Byte) : (s.setReg r v).pc = s.pc := rfl
@[simp] theorem State.setReg_i (r : Reg8) (v : Byte) : (s.setReg r v).i = s.i := rfl
@[simp] theorem State.setReg_r (r : Reg8) (v : Byte) : (s.setReg r v).r = s.r := rfl
@[simp] theorem State.setReg_iff1 (r : Reg8) (v : Byte) : (s.setReg r v).iff1 = s.iff1 := rfl
@[simp] theorem State.setReg_iff2 (r : Reg8) (v : Byte) : (s.setReg r v).iff2 = s.iff2 := rfl
@[simp] theorem State.setReg_im (r : Reg8) (v : Byte) : (s.setReg r v).im = s.im := rfl
@[simp] theorem State.setReg_halted (r : Reg8) (v : Byte) : (s.setReg r v).halted = s.halted := rfl
@[simp] theorem State.setReg_eiPending (r : Reg8) (v : Byte) : (s.setReg r v).eiPending = s.eiPending := rfl
@[simp] theorem State.setReg_nmiReq (r : Reg8) (v : Byte) : (s.setReg r v).nmiReq = s.nmiReq := rfl
@[simp] theorem State.setReg_bus (r : Reg8) (v : Byte) : (s.setReg r v).bus = s.bus := rfl
@[simp] theorem State.setReg_vdp (r : Reg8) (v : Byte) : (s.setReg r v).vdp = s.vdp := rfl
@[simp] theorem State.setReg_psg (r : Reg8) (v : Byte) : (s.setReg r v).psg = s.psg := rfl
@[simp] theorem State.setReg_cfg (r : Reg8) (v : Byte) : (s.setReg r v).cfg = s.cfg := rfl
@[simp] theorem State.setReg_cost (r : Reg8) (v : Byte) : (s.setReg r v).cost = s.cost := rfl
@[simp] theorem State.setReg_draws (r : Reg8) (v : Byte) : (s.setReg r v).draws = s.draws := rfl
@[simp] theorem State.setReg_notices (r : Reg8) (v : Byte) : (s.setReg r v).notices = s.notices := rfl

/-! `State.setBC`. -/

@[simp] theorem State.setBC_main (v : Word) : (s.setBC v).main = { s.main with b := hiByte v, c := loByte v } := rfl
@[simp] theorem State.setBC_shadow (v : Word) : (s.setBC v).shadow = s.shadow := rfl
@[simp] theorem State.setBC_ix (v : Word) : (s.setBC v).ix = s.ix := rfl
@[simp] theorem State.setBC_iy (v : Word) : (s.setBC v).iy = s.iy := rfl
@[simp] theorem State.setBC_sp (v : Word) : (s.setBC v).sp = s.sp := rfl
@[simp] theorem State.setBC_pc (v : Word) : (s.setBC v).pc = s.pc := rfl
@[simp] theorem State.setBC_i (v : Word) : (s.setBC v).i = s.i := rfl
@[simp] theorem State.setBC_r (v : Word) : (s.setBC v).r = s.r := rfl
@[simp] theorem State.setBC_iff1 (v : Word) : (s.setBC v).iff1 = s.iff1 := rfl
@[simp] theorem State.setBC_iff2 (v : Word) : (s.setBC v).iff2 = s.iff2 := rfl
@[simp] theorem State.setBC_im (v : Word) : (s.setBC v).im = s.im := rfl
@[simp] theorem State.setBC_halted (v : Word) : (s.setBC v).halted = s.halted := rfl
@[simp] theorem State.setBC_eiPending (v : Word) : (s.setBC v).eiPending = s.eiPending := rfl
@[simp] theorem State.setBC_nmiReq (v : Word) : (s.setBC v).nmiReq = s.nmiReq := rfl
@[simp] theorem State.setBC_bus (v : Word) : (s.setBC v).bus = s.bus := rfl
@[simp] theorem State.setBC_vdp (v : Word) : (s.setBC v).vdp = s.vdp := rfl
@[simp] theorem State.setBC_psg (v : Word) : (s.setBC v).psg = s.psg := rfl
@[simp] theorem State.setBC_cfg (v : Word) : (s.setBC v).cfg = s.cfg := rfl
@[simp] theorem State.setBC_cost (v : Word) : (s.setBC v).cost = s.cost := rfl
@[simp] theorem State.setBC_draws (v : Word) : (s.setBC v).draws = s.draws := rfl
@[simp] theorem State.setBC_notices (v : Word) : (s.setBC v).notices = s.notices := rfl

/-! `State.setDE`. -/

@[simp] theorem State.setDE_main (v : Word) : (s.setDE v).main = { s.main with d := hiByte v, e := loByte v } := rfl
@[simp] theorem State.setDE_shadow (v : Word) : (s.setDE v).shadow = s.shadow := rfl
@[simp] theorem State.setDE_ix (v : Word) : (s.setDE v).ix = s.ix := rfl
@[simp] theorem State.setDE_iy (v : Word) : (s.setDE v).iy = s.iy := rfl
@[simp] theorem State.setDE_sp (v : Word) : (s.setDE v).sp = s.sp := rfl
@[simp] theorem State.setDE_pc (v : Word) : (s.setDE v).pc = s.pc := rfl
@[simp] theorem State.setDE_i (v : Word) : (s.setDE v).i = s.i := rfl
@[simp] theorem State.setDE_r (v : Word) : (s.setDE v).r = s.r := rfl
@[simp] theorem State.setDE_iff1 (v : Word) : (s.setDE v).iff1 = s.iff1 := rfl
@[simp] theorem State.setDE_iff2 (v : Word) : (s.setDE v).iff2 = s.iff2 := rfl
@[simp] theorem State.setDE_im (v : Word) : (s.setDE v).im = s.im := rfl
@[simp] theorem State.setDE_halted (v : Word) : (s.setDE v).halted = s.halted := rfl
@[simp] theorem State.setDE_eiPending (v : Word) : (s.setDE v).eiPending = s.eiPending := rfl
@[simp] theorem State.setDE_nmiReq (v : Word) : (s.setDE v).nmiReq = s.nmiReq := rfl
@[simp] theorem State.setDE_bus (v : Word) : (s.setDE v).bus = s.bus := rfl
@[simp] theorem State.setDE_vdp (v : Word) : (s.setDE v).vdp = s.vdp := rfl
@[simp] theorem State.setDE_psg (v : Word) : (s.setDE v).psg = s.psg := rfl
@[simp] theorem State.setDE_cfg (v : Word) : (s.setDE v).cfg = s.cfg := rfl
@[simp] theorem State.setDE_cost (v : Word) : (s.setDE v).cost = s.cost := rfl
@[simp] theorem State.setDE_draws (v : Word) : (s.setDE v).draws = s.draws := rfl
@[simp] theorem State.setDE_notices (v : Word) : (s.setDE v).notices = s.notices := rfl

/-! `State.setHL`. -/

@[simp] theorem State.setHL_main (v : Word) : (s.setHL v).main = { s.main with h := hiByte v, l := loByte v } := rfl
@[simp] theorem State.setHL_shadow (v : Word) : (s.setHL v).shadow = s.shadow := rfl
@[simp] theorem State.setHL_ix (v : Word) : (s.setHL v).ix = s.ix := rfl
@[simp] theorem State.setHL_iy (v : Word) : (s.setHL v).iy = s.iy := rfl
@[simp] theorem State.setHL_sp (v : Word) : (s.setHL v).sp = s.sp := rfl
@[simp] theorem State.setHL_pc (v : Word) : (s.setHL v).pc = s.pc := rfl
@[simp] theorem State.setHL_i (v : Word) : (s.setHL v).i = s.i := rfl
@[simp] theorem State.setHL_r (v : Word) : (s.setHL v).r = s.r := rfl
@[simp] theorem State.setHL_iff1 (v : Word) : (s.setHL v).iff1 = s.iff1 := rfl
@[simp] theorem State.setHL_iff2 (v : Word) : (s.setHL v).iff2 = s.iff2 := rfl
@[simp] theorem State.setHL_im (v : Word) : (s.setHL v).im = s.im := rfl
@[simp] theorem State.setHL_halted (v : Word) : (s.setHL v).halted = s.halted := rfl
@[simp] theorem State.setHL_eiPending (v : Word) : (s.setHL v).eiPending = s.eiPending := rfl
@[simp] theorem State.setHL_nmiReq (v : Word) : (s.setHL v).nmiReq = s.nmiReq := rfl
@[simp] theorem State.setHL_bus (v : Word) : (s.setHL v).bus = s.bus := rfl
@[simp] theorem State.setHL_vdp (v : Word) : (s.setHL v).vdp = s.vdp := rfl
@[simp] theorem State.setHL_psg (v : Word) : (s.setHL v).psg = s.psg := rfl
@[simp] theorem State.setHL_cfg (v : Word) : (s.setHL v).cfg = s.cfg := rfl
@[simp] theorem State.setHL_cost (v : Word) : (s.setHL v).cost = s.cost := rfl
@[simp] theorem State.setHL_draws (v : Word) : (s.setHL v).draws = s.draws := rfl
@[simp] theorem State.setHL_notices (v : Word) : (s.setHL v).notices = s.notices := rfl

/-! `State.setAF`. -/

@[simp] theorem State.setAF_main (v : Word) : (s.setAF v).main = { s.main with a := hiByte v, f := loByte v } := rfl
@[simp] theorem State.setAF_shadow (v : Word) : (s.setAF v).shadow = s.shadow := rfl
@[simp] theorem State.setAF_ix (v : Word) : (s.setAF v).ix = s.ix := rfl
@[simp] theorem State.setAF_iy (v : Word) : (s.setAF v).iy = s.iy := rfl
@[simp] theorem State.setAF_sp (v : Word) : (s.setAF v).sp = s.sp := rfl
@[simp] theorem State.setAF_pc (v : Word) : (s.setAF v).pc = s.pc := rfl
@[simp] theorem State.setAF_i (v : Word) : (s.setAF v).i = s.i := rfl
@[simp] theorem State.setAF_r (v : Word) : (s.setAF v).r = s.r := rfl
@[simp] theorem State.setAF_iff1 (v : Word) : (s.setAF v).iff1 = s.iff1 := rfl
@[simp] theorem State.setAF_iff2 (v : Word) : (s.setAF v).iff2 = s.iff2 := rfl
@[simp] theorem State.setAF_im (v : Word) : (s.setAF v).im = s.im := rfl
@[simp] theorem State.setAF_halted (v : Word) : (s.setAF v).halted = s.halted := rfl
@[simp] theorem State.setAF_eiPending (v : Word) : (s.setAF v).eiPending = s.eiPending := rfl
@[simp] theorem State.setAF_nmiReq (v : Word) : (s.setAF v).nmiReq = s.nmiReq := rfl
@[simp] theorem State.setAF_bus (v : Word) : (s.setAF v).bus = s.bus := rfl
@[simp] theorem State.setAF_vdp (v : Word) : (s.setAF v).vdp = s.vdp := rfl
@[simp] theorem State.setAF_psg (v : Word) : (s.setAF v).psg = s.psg := rfl
@[simp] theorem State.setAF_cfg (v : Word) : (s.setAF v).cfg = s.cfg := rfl
@[simp] theorem State.setAF_cost (v : Word) : (s.setAF v).cost = s.cost := rfl
@[simp] theorem State.setAF_draws (v : Word) : (s.setAF v).draws = s.draws := rfl
@[simp] theorem State.setAF_notices (v : Word) : (s.setAF v).notices = s.notices := rfl

/-! `State.setPair`. -/

@[simp] theorem State.setPair_shadow (p : Reg16) (v : Word) : (s.setPair p v).shadow = s.shadow := by cases p <;> rfl
@[simp] theorem State.setPair_ix (p : Reg16) (v : Word) : (s.setPair p v).ix = s.ix := by cases p <;> rfl
@[simp] theorem State.setPair_iy (p : Reg16) (v : Word) : (s.setPair p v).iy = s.iy := by cases p <;> rfl
@[simp] theorem State.setPair_pc (p : Reg16) (v : Word) : (s.setPair p v).pc = s.pc := by cases p <;> rfl
@[simp] theorem State.setPair_i (p : Reg16) (v : Word) : (s.setPair p v).i = s.i := by cases p <;> rfl
@[simp] theorem State.setPair_r (p : Reg16) (v : Word) : (s.setPair p v).r = s.r := by cases p <;> rfl
@[simp] theorem State.setPair_iff1 (p : Reg16) (v : Word) : (s.setPair p v).iff1 = s.iff1 := by cases p <;> rfl
@[simp] theorem State.setPair_iff2 (p : Reg16) (v : Word) : (s.setPair p v).iff2 = s.iff2 := by cases p <;> rfl
@[simp] theorem State.setPair_im (p : Reg16) (v : Word) : (s.setPair p v).im = s.im := by cases p <;> rfl
@[simp] theorem State.setPair_halted (p : Reg16) (v : Word) : (s.setPair p v).halted = s.halted := by cases p <;> rfl
@[simp] theorem State.setPair_eiPending (p : Reg16) (v : Word) : (s.setPair p v).eiPending = s.eiPending := by cases p <;> rfl
@[simp] theorem State.setPair_nmiReq (p : Reg16) (v : Word) : (s.setPair p v).nmiReq = s.nmiReq := by cases p <;> rfl
@[simp] theorem State.setPair_bus (p : Reg16) (v : Word) : (s.setPair p v).bus = s.bus := by cases p <;> rfl
@[simp] theorem State.setPair_vdp (p : Reg16) (v : Word) : (s.setPair p v).vdp = s.vdp := by cases p <;> rfl
@[simp] theorem State.setPair_psg (p : Reg16) (v : Word) : (s.setPair p v).psg = s.psg := by cases p <;> rfl
@[simp] theorem State.setPair_cfg (p : Reg16) (v : Word) : (s.setPair p v).cfg = s.cfg := by cases p <;> rfl
@[simp] theorem State.setPair_cost (p : Reg16) (v : Word) : (s.setPair p v).cost = s.cost := by cases p <;> rfl
@[simp] theorem State.setPair_draws (p : Reg16) (v : Word) : (s.setPair p v).draws = s.draws := by cases p <;> rfl
@[simp] theorem State.setPair_notices (p : Reg16) (v : Word) : (s.setPair p v).notices = s.notices := by cases p <;> rfl

/-! `State.setStk`. -/

@[simp] theorem State.setStk_shadow (p : Stk16) (v : Word) : (s.setStk p v).shadow = s.shadow := by cases p <;> rfl
@[simp] theorem State.setStk_ix (p : Stk16) (v : Word) : (s.setStk p v).ix = s.ix := by cases p <;> rfl
@[simp] theorem State.setStk_iy (p : Stk16) (v : Word) : (s.setStk p v).iy = s.iy := by cases p <;> rfl
@[simp] theorem State.setStk_sp (p : Stk16) (v : Word) : (s.setStk p v).sp = s.sp := by cases p <;> rfl
@[simp] theorem State.setStk_pc (p : Stk16) (v : Word) : (s.setStk p v).pc = s.pc := by cases p <;> rfl
@[simp] theorem State.setStk_i (p : Stk16) (v : Word) : (s.setStk p v).i = s.i := by cases p <;> rfl
@[simp] theorem State.setStk_r (p : Stk16) (v : Word) : (s.setStk p v).r = s.r := by cases p <;> rfl
@[simp] theorem State.setStk_iff1 (p : Stk16) (v : Word) : (s.setStk p v).iff1 = s.iff1 := by cases p <;> rfl
@[simp] theorem State.setStk_iff2 (p : Stk16) (v : Word) : (s.setStk p v).iff2 = s.iff2 := by cases p <;> rfl
@[simp] theorem State.setStk_im (p : Stk16) (v : Word) : (s.setStk p v).im = s.im := by cases p <;> rfl
@[simp] theorem State.setStk_halted (p : Stk16) (v : Word) : (s.setStk p v).halted = s.halted := by cases p <;> rfl
@[simp] theorem State.setStk_eiPending (p : Stk16) (v : Word) : (s.setStk p v).eiPending = s.eiPending := by cases p <;> rfl
@[simp] theorem State.setStk_nmiReq (p : Stk16) (v : Word) : (s.setStk p v).nmiReq = s.nmiReq := by cases p <;> rfl
@[simp] theorem State.setStk_bus (p : Stk16) (v : Word) : (s.setStk p v).bus = s.bus := by cases p <;> rfl
@[simp] theorem State.setStk_vdp (p : Stk16) (v : Word) : (s.setStk p v).vdp = s.vdp := by cases p <;> rfl
@[simp] theorem State.setStk_psg (p : Stk16) (v : Word) : (s.setStk p v).psg = s.psg := by cases p <;> rfl
@[simp] theorem State.setStk_cfg (p : Stk16) (v : Word) : (s.setStk p v).cfg = s.cfg := by cases p <;> rfl
@[simp] theorem State.setStk_cost (p : Stk16) (v : Word) : (s.setStk p v).cost = s.cost := by cases p <;> rfl
@[simp] theorem State.setStk_draws (p : Stk16) (v : Word) : (s.setStk p v).draws = s.draws := by cases p <;> rfl
@[simp] theorem State.setStk_notices (p : Stk16) (v : Word) : (s.setStk p v).notices = s.notices := by cases p <;> rfl

/-! `State.setIndex`. -/

@[simp] theorem State.setIndex_main (x : Idx) (v : Word) : (s.setIndex x v).main = s.main := by cases x <;> rfl
@[simp] theorem State.setIndex_shadow (x : Idx) (v : Word) : (s.setIndex x v).shadow = s.shadow := by cases x <;> rfl
@[simp] theorem State.setIndex_sp (x : Idx) (v : Word) : (s.setIndex x v).sp = s.sp := by cases x <;> rfl
@[simp] theorem State.setIndex_pc (x : Idx) (v : Word) : (s.setIndex x v).pc = s.pc := by cases x <;> rfl
@[simp] theorem State.setIndex_i (x : Idx) (v : Word) : (s.setIndex x v).i = s.i := by cases x <;> rfl
@[simp] theorem State.setIndex_r (x : Idx) (v : Word) : (s.setIndex x v).r = s.r := by cases x <;> rfl
@[simp] theorem State.setIndex_iff1 (x : Idx) (v : Word) : (s.setIndex x v).iff1 = s.iff1 := by cases x <;> rfl
@[simp] theorem State.setIndex_iff2 (x : Idx) (v : Word) : (s.setIndex x v).iff2 = s.iff2 := by cases x <;> rfl
@[simp] theorem State.setIndex_im (x : Idx) (v : Word) : (s.setIndex x v).im = s.im := by cases x <;> rfl
@[simp] theorem State.setIndex_halted (x : Idx) (v : Word) : (s.setIndex x v).halted = s.halted := by cases x <;> rfl
@[simp] theorem State.setIndex_eiPending (x : Idx) (v : Word) : (s.setIndex x v).eiPending = s.eiPending := by cases x <;> rfl
@[simp] theorem State.setIndex_nmiReq (x : Idx) (v : Word) : (s.setIndex x v).nmiReq = s.nmiReq := by cases x <;> rfl
@[simp] theorem State.setIndex_bus (x : Idx) (v : Word) : (s.setIndex x v).bus = s.bus := by cases x <;> rfl
@[simp] theorem State.setIndex_vdp (x : Idx) (v : Word) : (s.setIndex x v).vdp = s.vdp := by cases x <;> rfl
@[simp] theorem State.setIndex_psg (x : Idx) (v : Word) : (s.setIndex x v).psg = s.psg := by cases x <;> rfl
@[simp] theorem State.setIndex_cfg (x : Idx) (v : Word) : (s.setIndex x v).cfg = s.cfg := by cases x <;> rfl
@[simp] theorem State.setIndex_cost (x : Idx) (v : Word) : (s.setIndex x v).cost = s.cost := by cases x <;> rfl
@[simp] theorem State.setIndex_draws (x : Idx) (v : Word) : (s.setIndex x v).draws = s.draws := by cases x <;> rfl
@[simp] theorem State.setIndex_notices (x : Idx) (v : Word) : (s.setIndex x v).notices = s.notices := by cases x <;> rfl

/-! `State.setHalf`. -/

@[simp] theorem State.setHalf_main (x : Idx) (h : Half) (v : Byte) : (s.setHalf x h v).main = s.main := by cases x <;> cases h <;> rfl
@[simp] theorem State.setHalf_shadow (x : Idx) (h : Half) (v : Byte) : (s.setHalf x h v).shadow = s.shadow := by cases x <;> cases h <;> rfl
@[simp] theorem State.setHalf_sp (x : Idx) (h : Half) (v : Byte) : (s.setHalf x h v).sp = s.sp := by cases x <;> cases h <;> rfl
@[simp] theorem State.setHalf_pc (x : Idx) (h : Half) (v : Byte) : (s.setHalf x h v).pc = s.pc := by cases x <;> cases h <;> rfl
@[simp] theorem State.setHalf_i (x : Idx) (h : Half) (v : Byte) : (s.setHalf x h v).i = s.i := by cases x <;> cases h <;> rfl
@[simp] theorem State.setHalf_r (x : Idx) (h : Half) (v : Byte) : (s.setHalf x h v).r = s.r := by cases x <;> cases h <;> rfl
@[simp] theorem State.setHalf_iff1 (x : Idx) (h : Half) (v : Byte) : (s.setHalf x h v).iff1 = s.iff1 := by cases x <;> cases h <;> rfl
@[simp] theorem State.setHalf_iff2 (x : Idx) (h : Half) (v : Byte) : (s.setHalf x h v).iff2 = s.iff2 := by cases x <;> cases h <;> rfl
@[simp] theorem State.setHalf_im (x : Idx) (h : Half) (v : Byte) : (s.setHalf x h v).im = s.im := by cases x <;> cases h <;> rfl
@[simp] theorem State.setHalf_halted (x : Idx) (h : Half) (v : Byte) : (s.setHalf x h v).halted = s.halted := by cases x <;> cases h <;> rfl
@[simp] theorem State.setHalf_eiPending (x : Idx) (h : Half) (v : Byte) : (s.setHalf x h v).eiPending = s.eiPending := by cases x <;> cases h <;> rfl
@[simp] theorem State.setHalf_nmiReq (x : Idx) (h : Half) (v : Byte) : (s.setHalf x h v).nmiReq = s.nmiReq := by cases x <;> cases h <;> rfl
@[simp] theorem State.setHalf_bus (x : Idx) (h : Half) (v : Byte) : (s.setHalf x h v).bus = s.bus := by cases x <;> cases h <;> rfl
@[simp] theorem State.setHalf_vdp (x : Idx) (h : Half) (v : Byte) : (s.setHalf x h v).vdp = s.vdp := by cases x <;> cases h <;> rfl
@[simp] theorem State.setHalf_psg (x : Idx) (h : Half) (v : Byte) : (s.setHalf x h v).psg = s.psg := by cases x <;> cases h <;> rfl
@[simp] theorem State.setHalf_cfg (x : Idx) (h : Half) (v : Byte) : (s.setHalf x h v).cfg = s.cfg := by cases x <;> cases h <;> rfl
@[simp] theorem State.setHalf_cost (x : Idx) (h : Half) (v : Byte) : (s.setHalf x h v).cost = s.cost := by cases x <;> cases h <;> rfl
@[simp] theorem State.setHalf_draws (x : Idx) (h : Half) (v : Byte) : (s.setHalf x h v).draws = s.draws := by cases x <;> cases h <;> rfl
@[simp] theorem State.setHalf_notices (x : Idx) (h : Half) (v : Byte) : (s.setHalf x h v).notices = s.notices := by cases x <;> cases h <;> rfl

/-! `State.setXreg`. -/

@[simp] theorem State.setXreg_shadow (x : Idx) (p : XReg8) (v : Byte) : (s.setXreg x p v).shadow = s.shadow := by cases x <;> cases p <;> rfl
@[simp] theorem State.setXreg_sp (x : Idx) (p : XReg8) (v : Byte) : (s.setXreg x p v).sp = s.sp := by cases x <;> cases p <;> rfl
@[simp] theorem State.setXreg_pc (x : Idx) (p : XReg8) (v : Byte) : (s.setXreg x p v).pc = s.pc := by cases x <;> cases p <;> rfl
@[simp] theorem State.setXreg_i (x : Idx) (p : XReg8) (v : Byte) : (s.setXreg x p v).i = s.i := by cases x <;> cases p <;> rfl
@[simp] theorem State.setXreg_r (x : Idx) (p : XReg8) (v : Byte) : (s.setXreg x p v).r = s.r := by cases x <;> cases p <;> rfl
@[simp] theorem State.setXreg_iff1 (x : Idx) (p : XReg8) (v : Byte) : (s.setXreg x p v).iff1 = s.iff1 := by cases x <;> cases p <;> rfl
@[simp] theorem State.setXreg_iff2 (x : Idx) (p : XReg8) (v : Byte) : (s.setXreg x p v).iff2 = s.iff2 := by cases x <;> cases p <;> rfl
@[simp] theorem State.setXreg_im (x : Idx) (p : XReg8) (v : Byte) : (s.setXreg x p v).im = s.im := by cases x <;> cases p <;> rfl
@[simp] theorem State.setXreg_halted (x : Idx) (p : XReg8) (v : Byte) : (s.setXreg x p v).halted = s.halted := by cases x <;> cases p <;> rfl
@[simp] theorem State.setXreg_eiPending (x : Idx) (p : XReg8) (v : Byte) : (s.setXreg x p v).eiPending = s.eiPending := by cases x <;> cases p <;> rfl
@[simp] theorem State.setXreg_nmiReq (x : Idx) (p : XReg8) (v : Byte) : (s.setXreg x p v).nmiReq = s.nmiReq := by cases x <;> cases p <;> rfl
@[simp] theorem State.setXreg_bus (x : Idx) (p : XReg8) (v : Byte) : (s.setXreg x p v).bus = s.bus := by cases x <;> cases p <;> rfl
@[simp] theorem State.setXreg_vdp (x : Idx) (p : XReg8) (v : Byte) : (s.setXreg x p v).vdp = s.vdp := by cases x <;> cases p <;> rfl
@[simp] theorem State.setXreg_psg (x : Idx) (p : XReg8) (v : Byte) : (s.setXreg x p v).psg = s.psg := by cases x <;> cases p <;> rfl
@[simp] theorem State.setXreg_cfg (x : Idx) (p : XReg8) (v : Byte) : (s.setXreg x p v).cfg = s.cfg := by cases x <;> cases p <;> rfl
@[simp] theorem State.setXreg_cost (x : Idx) (p : XReg8) (v : Byte) : (s.setXreg x p v).cost = s.cost := by cases x <;> cases p <;> rfl
@[simp] theorem State.setXreg_draws (x : Idx) (p : XReg8) (v : Byte) : (s.setXreg x p v).draws = s.draws := by cases x <;> cases p <;> rfl
@[simp] theorem State.setXreg_notices (x : Idx) (p : XReg8) (v : Byte) : (s.setXreg x p v).notices = s.notices := by cases x <;> cases p <;> rfl

/-! `State.memWrite`. -/

@[simp] theorem State.memWrite_bus (a : Word) (v : Byte) : (s.memWrite a v).bus = s.bus.write a v := rfl
@[simp] theorem State.memWrite_main (a : Word) (v : Byte) : (s.memWrite a v).main = s.main := rfl
@[simp] theorem State.memWrite_shadow (a : Word) (v : Byte) : (s.memWrite a v).shadow = s.shadow := rfl
@[simp] theorem State.memWrite_ix (a : Word) (v : Byte) : (s.memWrite a v).ix = s.ix := rfl
@[simp] theorem State.memWrite_iy (a : Word) (v : Byte) : (s.memWrite a v).iy = s.iy := rfl
@[simp] theorem State.memWrite_sp (a : Word) (v : Byte) : (s.memWrite a v).sp = s.sp := rfl
@[simp] theorem State.memWrite_pc (a : Word) (v : Byte) : (s.memWrite a v).pc = s.pc := rfl
@[simp] theorem State.memWrite_i (a : Word) (v : Byte) : (s.memWrite a v).i = s.i := rfl
@[simp] theorem State.memWrite_r (a : Word) (v : Byte) : (s.memWrite a v).r = s.r := rfl
@[simp] theorem State.memWrite_iff1 (a : Word) (v : Byte) : (s.memWrite a v).iff1 = s.iff1 := rfl
@[simp] theorem State.memWrite_iff2 (a : Word) (v : Byte) : (s.memWrite a v).iff2 = s.iff2 := rfl
@[simp] theorem State.memWrite_im (a : Word) (v : Byte) : (s.memWrite a v).im = s.im := rfl
@[simp] theorem State.memWrite_halted (a : Word) (v : Byte) : (s.memWrite a v).halted = s.halted := rfl
@[simp] theorem State.memWrite_eiPending (a : Word) (v : Byte) : (s.memWrite a v).eiPending = s.eiPending := rfl
@[simp] theorem State.memWrite_nmiReq (a : Word) (v : Byte) : (s.memWrite a v).nmiReq = s.nmiReq := rfl
@[simp] theorem State.memWrite_vdp (a : Word) (v : Byte) : (s.memWrite a v).vdp = s.vdp := rfl
@[simp] theorem State.memWrite_psg (a : Word) (v : Byte) : (s.memWrite a v).psg = s.psg := rfl
@[simp] theorem State.memWrite_cfg (a : Word) (v : Byte) : (s.memWrite a v).cfg = s.cfg := rfl
@[simp] theorem State.memWrite_cost (a : Word) (v : Byte) : (s.memWrite a v).cost = s.cost := rfl
@[simp] theorem State.memWrite_draws (a : Word) (v : Byte) : (s.memWrite a v).draws = s.draws := rfl
@[simp] theorem State.memWrite_notices (a : Word) (v : Byte) : (s.memWrite a v).notices = s.notices := rfl

/-! `State.memWrite16`. -/

@[simp] theorem State.memWrite16_bus (a v : Word) : (s.memWrite16 a v).bus = (s.bus.write a (loByte v)).write (a + 1#16) (hiByte v) := rfl
@[simp] theorem State.memWrite16_main (a v : Word) : (s.memWrite16 a v).main = s.main := rfl
@[simp] theorem State.memWrite16_shadow (a v : Word) : (s.memWrite16 a v).shadow = s.shadow := rfl
@[simp] theorem State.memWrite16_ix (a v : Word) : (s.memWrite16 a v).ix = s.ix := rfl
@[simp] theorem State.memWrite16_iy (a v : Word) : (s.memWrite16 a v).iy = s.iy := rfl
@[simp] theorem State.memWrite16_sp (a v : Word) : (s.memWrite16 a v).sp = s.sp := rfl
@[simp] theorem State.memWrite16_pc (a v : Word) : (s.memWrite16 a v).pc = s.pc := rfl
@[simp] theorem State.memWrite16_i (a v : Word) : (s.memWrite16 a v).i = s.i := rfl
@[simp] theorem State.memWrite16_r (a v : Word) : (s.memWrite16 a v).r = s.r := rfl
@[simp] theorem State.memWrite16_iff1 (a v : Word) : (s.memWrite16 a v).iff1 = s.iff1 := rfl
@[simp] theorem State.memWrite16_iff2 (a v : Word) : (s.memWrite16 a v).iff2 = s.iff2 := rfl
@[simp] theorem State.memWrite16_im (a v : Word) : (s.memWrite16 a v).im = s.im := rfl
@[simp] theorem State.memWrite16_halted (a v : Word) : (s.memWrite16 a v).halted = s.halted := rfl
@[simp] theorem State.memWrite16_eiPending (a v : Word) : (s.memWrite16 a v).eiPending = s.eiPending := rfl
@[simp] theorem State.memWrite16_nmiReq (a v : Word) : (s.memWrite16 a v).nmiReq = s.nmiReq := rfl
@[simp] theorem State.memWrite16_vdp (a v : Word) : (s.memWrite16 a v).vdp = s.vdp := rfl
@[simp] theorem State.memWrite16_psg (a v : Word) : (s.memWrite16 a v).psg = s.psg := rfl
@[simp] theorem State.memWrite16_cfg (a v : Word) : (s.memWrite16 a v).cfg = s.cfg := rfl
@[simp] theorem State.memWrite16_cost (a v : Word) : (s.memWrite16 a v).cost = s.cost := rfl
@[simp] theorem State.memWrite16_draws (a v : Word) : (s.memWrite16 a v).draws = s.draws := rfl
@[simp] theorem State.memWrite16_notices (a v : Word) : (s.memWrite16 a v).notices = s.notices := rfl

/-! `State.push16`. -/

@[simp] theorem State.push16_bus (v : Word) : (s.push16 v).bus = (s.bus.write (s.sp - 1#16) (hiByte v)).write (s.sp - 1#16 - 1#16) (loByte v) := rfl
@[simp] theorem State.push16_sp (v : Word) : (s.push16 v).sp = s.sp - 1#16 - 1#16 := rfl
@[simp] theorem State.push16_main (v : Word) : (s.push16 v).main = s.main := rfl
@[simp] theorem State.push16_shadow (v : Word) : (s.push16 v).shadow = s.shadow := rfl
@[simp] theorem State.push16_ix (v : Word) : (s.push16 v).ix = s.ix := rfl
@[simp] theorem State.push16_iy (v : Word) : (s.push16 v).iy = s.iy := rfl
@[simp] theorem State.push16_pc (v : Word) : (s.push16 v).pc = s.pc := rfl
@[simp] theorem State.push16_i (v : Word) : (s.push16 v).i = s.i := rfl
@[simp] theorem State.push16_r (v : Word) : (s.push16 v).r = s.r := rfl
@[simp] theorem State.push16_iff1 (v : Word) : (s.push16 v).iff1 = s.iff1 := rfl
@[simp] theorem State.push16_iff2 (v : Word) : (s.push16 v).iff2 = s.iff2 := rfl
@[simp] theorem State.push16_im (v : Word) : (s.push16 v).im = s.im := rfl
@[simp] theorem State.push16_halted (v : Word) : (s.push16 v).halted = s.halted := rfl
@[simp] theorem State.push16_eiPending (v : Word) : (s.push16 v).eiPending = s.eiPending := rfl
@[simp] theorem State.push16_nmiReq (v : Word) : (s.push16 v).nmiReq = s.nmiReq := rfl
@[simp] theorem State.push16_vdp (v : Word) : (s.push16 v).vdp = s.vdp := rfl
@[simp] theorem State.push16_psg (v : Word) : (s.push16 v).psg = s.psg := rfl
@[simp] theorem State.push16_cfg (v : Word) : (s.push16 v).cfg = s.cfg := rfl
@[simp] theorem State.push16_cost (v : Word) : (s.push16 v).cost = s.cost := rfl
@[simp] theorem State.push16_draws (v : Word) : (s.push16 v).draws = s.draws := rfl
@[simp] theorem State.push16_notices (v : Word) : (s.push16 v).notices = s.notices := rfl

/-! `State.beginInstr`. -/

@[simp] theorem State.beginInstr_eiPending (n : Nat) : (s.beginInstr n).eiPending = false := rfl
@[simp] theorem State.beginInstr_pc (n : Nat) : (s.beginInstr n).pc = s.pc + BitVec.ofNat 16 n := rfl
@[simp] theorem State.beginInstr_main (n : Nat) : (s.beginInstr n).main = s.main := rfl
@[simp] theorem State.beginInstr_shadow (n : Nat) : (s.beginInstr n).shadow = s.shadow := rfl
@[simp] theorem State.beginInstr_ix (n : Nat) : (s.beginInstr n).ix = s.ix := rfl
@[simp] theorem State.beginInstr_iy (n : Nat) : (s.beginInstr n).iy = s.iy := rfl
@[simp] theorem State.beginInstr_sp (n : Nat) : (s.beginInstr n).sp = s.sp := rfl
@[simp] theorem State.beginInstr_i (n : Nat) : (s.beginInstr n).i = s.i := rfl
@[simp] theorem State.beginInstr_r (n : Nat) : (s.beginInstr n).r = s.r := rfl
@[simp] theorem State.beginInstr_iff1 (n : Nat) : (s.beginInstr n).iff1 = s.iff1 := rfl
@[simp] theorem State.beginInstr_iff2 (n : Nat) : (s.beginInstr n).iff2 = s.iff2 := rfl
@[simp] theorem State.beginInstr_im (n : Nat) : (s.beginInstr n).im = s.im := rfl
@[simp] theorem State.beginInstr_halted (n : Nat) : (s.beginInstr n).halted = s.halted := rfl
@[simp] theorem State.beginInstr_nmiReq (n : Nat) : (s.beginInstr n).nmiReq = s.nmiReq := rfl
@[simp] theorem State.beginInstr_bus (n : Nat) : (s.beginInstr n).bus = s.bus := rfl
@[simp] theorem State.beginInstr_vdp (n : Nat) : (s.beginInstr n).vdp = s.vdp := rfl
@[simp] theorem State.beginInstr_psg (n : Nat) : (s.beginInstr n).psg = s.psg := rfl
@[simp] theorem State.beginInstr_cfg (n : Nat) : (s.beginInstr n).cfg = s.cfg := rfl
@[simp] theorem State.beginInstr_cost (n : Nat) : (s.beginInstr n).cost = s.cost := rfl
@[simp] theorem State.beginInstr_draws (n : Nat) : (s.beginInstr n).draws = s.draws := rfl
@[simp] theorem State.beginInstr_notices (n : Nat) : (s.beginInstr n).notices = s.notices := rfl

/-! `State.endInstr`. -/

@[simp] theorem State.endInstr_iff1 (w : Bool) : (s.endInstr w).iff1 = (s.iff1 || w) := rfl
@[simp] theorem State.endInstr_iff2 (w : Bool) : (s.endInstr w).iff2 = (s.iff2 || w) := rfl
@[simp] theorem State.endInstr_r (w : Bool) : (s.endInstr w).r = nextR s.r := rfl
@[simp] theorem State.endInstr_main (w : Bool) : (s.endInstr w).main = s.main := rfl
@[simp] theorem State.endInstr_shadow (w : Bool) : (s.endInstr w).shadow = s.shadow := rfl
@[simp] theorem State.endInstr_ix (w : Bool) : (s.endInstr w).ix = s.ix := rfl
@[simp] theorem State.endInstr_iy (w : Bool) : (s.endInstr w).iy = s.iy := rfl
@[simp] theorem State.endInstr_sp (w : Bool) : (s.endInstr w).sp = s.sp := rfl
@[simp] theorem State.endInstr_pc (w : Bool) : (s.endInstr w).pc = s.pc := rfl
@[simp] theorem State.endInstr_i (w : Bool) : (s.endInstr w).i = s.i := rfl
@[simp] theorem State.endInstr_im (w : Bool) : (s.endInstr w).im = s.im := rfl
@[simp] theorem State.endInstr_halted (w : Bool) : (s.endInstr w).halted = s.halted := rfl
@[simp] theorem State.endInstr_eiPending (w : Bool) : (s.endInstr w).eiPending = s.eiPending := rfl
@[simp] theorem State.endInstr_nmiReq (w : Bool) : (s.endInstr w).nmiReq = s.nmiReq := rfl
@[simp] theorem State.endInstr_bus (w : Bool) : (s.endInstr w).bus = s.bus := rfl
@[simp] theorem State.endInstr_vdp (w : Bool) : (s.endInstr w).vdp = s.vdp := rfl
@[simp] theorem State.endInstr_psg (w : Bool) : (s.endInstr w).psg = s.psg := rfl
@[simp] theorem State.endInstr_cfg (w : Bool) : (s.endInstr w).cfg = s.cfg := rfl
@[simp] theorem State.endInstr_cost (w : Bool) : (s.endInstr w).cost = s.cost := rfl
@[simp] theorem State.endInstr_draws (w : Bool) : (s.endInstr w).draws = s.draws := rfl
@[simp] theorem State.endInstr_notices (w : Bool) : (s.endInstr w).notices = s.notices := rfl

/-! `State.draw` and `State.pop16`, which answer a value beside the state. -/

theorem State.draw_snd : s.draw.2 = { s with draws := s.draws + 1 } := rfl

theorem State.draw_fst : s.draw.1 = Config.freeByte s.draws := rfl

theorem State.pop16_snd : s.pop16.2 = { s with sp := s.sp + 2#16 } := rfl

theorem State.pop16_fst : s.pop16.1 = s.memRead16 s.sp := rfl

/-! Registers of a register set. -/

@[simp] theorem RegSet.get_set_self (m : RegSet) (r : Reg8) (v : Byte) : (m.set r v).get r = v := by
  cases r <;> rfl

theorem RegSet.get_set_other (m : RegSet) {r q : Reg8} (v : Byte) (h : q ≠ r) : (m.set r v).get q = m.get q := by
  cases r <;> cases q <;> first | rfl | exact absurd rfl h

@[simp] theorem RegSet.set_f (m : RegSet) (r : Reg8) (v : Byte) : (m.set r v).f = m.f := by cases r <;> rfl

@[simp] theorem RegSet.get_withF (m : RegSet) (r : Reg8) (f : Byte) : { m with f := f }.get r = m.get r := by
  cases r <;> rfl

/-! Halves and pairs. -/

@[simp] theorem hiByte_mkWord (h l : Byte) : hiByte (mkWord h l) = h := by
  ext i hi
  simp only [hiByte, mkWord, BitVec.getElem_extractLsb', BitVec.getLsbD_append]
  rw [if_neg (by omega)]
  simp [BitVec.getLsbD, BitVec.getElem_eq_testBit_toNat]

@[simp] theorem loByte_mkWord (h l : Byte) : loByte (mkWord h l) = l := by
  ext i hi
  simp only [loByte, mkWord, BitVec.getElem_extractLsb', BitVec.getLsbD_append]
  rw [if_pos (by omega)]
  simp [BitVec.getLsbD, BitVec.getElem_eq_testBit_toNat]

@[simp] theorem mkWord_hiByte_loByte (v : Word) : mkWord (hiByte v) (loByte v) = v := by
  apply BitVec.eq_of_getLsbD_eq
  intro i hi
  simp only [mkWord, hiByte, loByte, BitVec.getLsbD_append, BitVec.getLsbD_extractLsb']
  by_cases h : i < 8
  · simp [h]
  · rw [if_neg h]
    have : i - 8 < 8 := by omega
    simp [this, show 8 + (i - 8) = i by omega]

theorem mkWord_toNat (h l : Byte) : (mkWord h l).toNat = 256 * h.toNat + l.toNat := by
  have := l.isLt
  simp only [mkWord, BitVec.toNat_append]
  rw [Nat.shiftLeft_eq, ← Nat.shiftLeft_eq, ← Nat.shiftLeft_add_eq_or_of_lt (by simpa using l.isLt), Nat.shiftLeft_eq]
  omega

end Sys2Proof.Machine
end

