-- ==== Sys2Proof/Laws/Bus.lean ====
section
/-! SUPPORT. The laws of the memory map: loads after stores, which addresses share a cell, what a byte or a 16-bit store
does in the terms of Safety.lean, and that every store keeps the bus legal. -/

namespace Sys2Proof.Machine

/-- A location that a write changes. -/
def Loc.isRom : Loc → Bool
  | .rom _ => true
  | .cartRam _ | .sysRam _ | .ctrl | .page0 | .page1 | .page2 => false

/-- Loads after a store, by location (20_memory.md rules R63, R84). -/
theorem Bus.load_store (b : Bus) (l k : Loc) (v : Byte) :
    (b.store l v).load k = if k = l ∧ l.isRom = false then v else b.load k := by
  cases l <;> cases k <;>
    simp [Bus.store, Bus.load, Loc.isRom, Memory.read_write]

theorem Bus.load_store_other (b : Bus) {l k : Loc} (v : Byte) (h : k ≠ l) :
    (b.store l v).load k = b.load k := by
  rw [Bus.load_store, if_neg fun e => h e.1]

@[simp] theorem Bus.store_rom (b : Bus) (l : Loc) (v : Byte) : (b.store l v).rom = b.rom := by
  cases l <;> rfl

@[simp] theorem Bus.store_pageCount (b : Bus) (l : Loc) (v : Byte) : (b.store l v).pageCount = b.pageCount := by
  cases l <;> rfl

@[simp] theorem Bus.store_latch (b : Bus) (l : Loc) (v : Byte) : (b.store l v).latch = b.latch := by
  cases l <;> rfl

@[simp] theorem Bus.write_rom (b : Bus) (a : Word) (v : Byte) : (b.write a v).rom = b.rom := Bus.store_rom ..

@[simp] theorem Bus.write_pageCount (b : Bus) (a : Word) (v : Byte) : (b.write a v).pageCount = b.pageCount :=
  Bus.store_pageCount ..

@[simp] theorem Bus.write_latch (b : Bus) (a : Word) (v : Byte) : (b.write a v).latch = b.latch := Bus.store_latch ..

/-- Addresses select ROM exactly where a write has no effect. -/
theorem Bus.locate_isRom (b : Bus) (a : Word) : (b.locate a).isRom = !b.writable a := by
  simp only [Bus.locate, Bus.writable]
  split_ifs <;> simp_all [Loc.isRom] <;> omega

/-- A write is seen at its own address where the address is writable; every other cell keeps what it held. -/
theorem Bus.load_write (b : Bus) (a : Word) (v : Byte) (l : Loc) :
    (b.write a v).load l = if l = b.locate a ∧ b.writable a = true then v else b.load l := by
  rw [Bus.write, Bus.load_store, Bus.locate_isRom]
  simp

/-- Whether the location is one of the control bytes, on which the map depends. -/
def Loc.isControl : Loc → Bool
  | .ctrl | .page0 | .page1 | .page2 => true
  | .rom _ | .cartRam _ | .sysRam _ => false

theorem Bus.locate_isControl (b : Bus) (a : Word) : (b.locate a).isControl = decide (0xFFFC ≤ a.toNat) := by
  simp only [Bus.locate]
  split_ifs <;> simp [Loc.isControl] <;> omega

/-- The map depends on the control bytes and the number of pages only. -/
theorem Bus.locate_congr {b b' : Bus} (hc : b'.ctrl = b.ctrl) (h0 : b'.page0 = b.page0) (h1 : b'.page1 = b.page1)
    (h2 : b'.page2 = b.page2) (hp : b'.pageCount = b.pageCount) (a : Word) : b'.locate a = b.locate a := by
  have e : b'.ramEnabled = b.ramEnabled := by rw [Bus.ramEnabled, Bus.ramEnabled, hc]
  have r : b'.ramPage = b.ramPage := by rw [Bus.ramPage, Bus.ramPage, hc]
  have g (p : Byte) : b'.pageBase p = b.pageBase p := by rw [Bus.pageBase, Bus.pageBase, hp]
  unfold Bus.locate
  rw [e, r, h0, h1, h2, g, g, g]

/-- A store outside the control bytes leaves the map as it is. -/
theorem Bus.locate_store (b : Bus) {l : Loc} (v : Byte) (h : l.isControl = false) (a : Word) :
    (b.store l v).locate a = b.locate a := by
  cases l with
  | rom off => rfl
  | cartRam off => exact Bus.locate_congr (b := b) (b' := b.store (.cartRam off) v) rfl rfl rfl rfl rfl a
  | sysRam off => exact Bus.locate_congr (b := b) (b' := b.store (.sysRam off) v) rfl rfl rfl rfl rfl a
  | ctrl => simp [Loc.isControl] at h
  | page0 => simp [Loc.isControl] at h
  | page1 => simp [Loc.isControl] at h
  | page2 => simp [Loc.isControl] at h

theorem Bus.locate_write (b : Bus) {a : Word} (v : Byte) (h : a.toNat < 0xFFFC) (x : Word) :
    (b.write a v).locate x = b.locate x :=
  Bus.locate_store b v (by rw [Bus.locate_isControl]; simp; omega) x

/-- The fixed boot page, system RAM, its mirror and the control bytes stand where they stand whatever the control bytes
hold (rule R62). -/
theorem Bus.locate_fixed {a : Word} (h : a.toNat < 0x400 ∨ 0xC000 ≤ a.toNat) (b b' : Bus) :
    b'.locate a = b.locate a := by
  unfold Bus.locate
  rcases h with h | h
  · simp [h]
  · have h0 : ¬a.toNat < 0x400 := by omega
    have h1 : ¬a.toNat < 0x4000 := by omega
    have h2 : ¬a.toNat < 0x8000 := by omega
    have h3 : ¬a.toNat < 0xC000 := by omega
    simp only [h0, h1, h2, h3, if_false]

/-- The byte after a control byte, or before one, is never in a banked frame. -/
theorem Bus.locate_write_next (b : Bus) (a : Word) (v : Byte) :
    (b.write a v).locate (a + 1#16) = b.locate (a + 1#16) := by
  by_cases h : a.toNat < 0xFFFC
  · exact Bus.locate_write b v h _
  · refine Bus.locate_fixed ?_ _ _
    have := a.isLt
    simp only [BitVec.toNat_add, BitVec.toNat_ofNat]
    omega

theorem Bus.locate_write_prev (b : Bus) (a : Word) (v : Byte) :
    (b.write (a + 1#16) v).locate a = b.locate a := by
  by_cases h : (a + 1#16).toNat < 0xFFFC
  · exact Bus.locate_write b v h _
  · refine Bus.locate_fixed ?_ _ _
    have := a.isLt
    simp only [BitVec.toNat_add, BitVec.toNat_ofNat] at h
    omega

/-- The low thirteen bits of the address, as a location shows them. -/
def Loc.low : Loc → Nat
  | .rom off | .cartRam off | .sysRam off => off % 0x2000
  | .ctrl => 0x1FFC
  | .page0 => 0x1FFD
  | .page1 => 0x1FFE
  | .page2 => 0x1FFF

theorem Bus.locate_low (b : Bus) (a : Word) : (b.locate a).low = a.toNat % 0x2000 := by
  have ha := a.isLt
  unfold Bus.locate Bus.pageBase
  dsimp only
  split_ifs <;> simp only [Loc.low] <;> omega

/-- Neighbouring addresses never select one cell. -/
theorem Bus.locate_next_ne (b : Bus) (a : Word) : b.locate (a + 1#16) ≠ b.locate a := by
  intro h
  have h' := congrArg Loc.low h
  rw [Bus.locate_low, Bus.locate_low, BitVec.toNat_add, BitVec.toNat_ofNat] at h'
  have := a.isLt
  omega

/-- A byte store in the terms of Safety.lean. -/
theorem Bus.write_storesByte (b : Bus) (a : Word) (v : Byte) : b.storesByte (b.write a v) a v := by
  refine ⟨⟨by simp, by simp, ?_, ?_⟩, ?_⟩
  · intro l hl
    rw [Bus.load_write, if_neg fun e => hl a (by simp) e.1]
  · intro h x hx
    unfold Bus.read
    rw [Bus.locate_write b v (h a (by simp)), Bus.load_write, if_neg fun e => hx a (by simp) e.1]
  · simp [Bus.holds, Bus.load_write]

theorem Bus.writable_write_next (b : Bus) (a : Word) (v : Byte) :
    (b.write a v).writable (a + 1#16) = b.writable (a + 1#16) := by
  have h := Bus.locate_isRom (b.write a v) (a + 1#16)
  rw [Bus.locate_write_next, Bus.locate_isRom] at h
  simpa using h.symm

theorem Bus.writable_write_prev (b : Bus) (a : Word) (v : Byte) :
    (b.write (a + 1#16) v).writable a = b.writable a := by
  have h := Bus.locate_isRom (b.write (a + 1#16) v) a
  rw [Bus.locate_write_prev, Bus.locate_isRom] at h
  simpa using h.symm

/-- A 16-bit store, the low byte first (rule R74), in the terms of Safety.lean. -/
theorem Bus.write_low_high (b : Bus) (a : Word) (hi lo : Byte) :
    b.storesWord ((b.write a lo).write (a + 1#16) hi) a hi lo := by
  refine ⟨⟨by simp, by simp, ?_, ?_⟩, ?_, ?_⟩
  · intro l hl
    rw [Bus.load_write, if_neg, Bus.load_write, if_neg]
    · exact fun e => hl a (by simp) e.1
    · exact fun e => hl (a + 1#16) (by simp) (by rw [e.1, Bus.locate_write_next])
  · intro h x hx
    have h1 := h a (by simp)
    have h2 := h (a + 1#16) (by simp)
    unfold Bus.read
    rw [Bus.locate_write _ hi h2, Bus.locate_write _ lo h1, Bus.load_write, if_neg, Bus.load_write, if_neg]
    · exact fun e => hx a (by simp) e.1
    · exact fun e => hx (a + 1#16) (by simp) (by rw [e.1, Bus.locate_write_next])
  · unfold Bus.holds
    rw [Bus.load_write, if_neg, Bus.load_write]
    · simp
    · exact fun e => Bus.locate_next_ne b a (by rw [e.1, Bus.locate_write_next])
  · unfold Bus.holds
    rw [Bus.load_write, Bus.locate_write_next, Bus.writable_write_next, Bus.load_write]
    simp [Bus.locate_next_ne]

/-- A 16-bit store, the high byte first (00_scope.md rule R12), does the same. -/
theorem Bus.write_high_low (b : Bus) (a : Word) (hi lo : Byte) :
    b.storesWord ((b.write (a + 1#16) hi).write a lo) a hi lo := by
  refine ⟨⟨by simp, by simp, ?_, ?_⟩, ?_, ?_⟩
  · intro l hl
    rw [Bus.load_write, if_neg, Bus.load_write, if_neg]
    · exact fun e => hl (a + 1#16) (by simp) e.1
    · exact fun e => hl a (by simp) (by rw [e.1, Bus.locate_write_prev])
  · intro h x hx
    have h1 := h a (by simp)
    have h2 := h (a + 1#16) (by simp)
    unfold Bus.read
    rw [Bus.locate_write _ lo h1, Bus.locate_write _ hi h2, Bus.load_write, if_neg, Bus.load_write, if_neg]
    · exact fun e => hx (a + 1#16) (by simp) e.1
    · exact fun e => hx a (by simp) (by rw [e.1, Bus.locate_write_prev])
  · unfold Bus.holds
    rw [Bus.load_write, Bus.locate_write_prev, Bus.writable_write_prev, Bus.load_write]
    simp [(Bus.locate_next_ne b a).symm]
  · unfold Bus.holds
    rw [Bus.load_write, if_neg, Bus.load_write]
    · simp
    · exact fun e => Bus.locate_next_ne b a (by rw [e.1, Bus.locate_write_prev])

theorem State.memWrite16_storesWord (s : State) (a v : Word) :
    s.bus.storesWord (s.memWrite16 a v).bus a (hiByte v) (loByte v) := by
  rw [State.memWrite16_bus]
  exact Bus.write_low_high ..

/-- A push stores its value at the new SP. -/
theorem State.push16_storesWord (s : State) (v : Word) :
    s.bus.storesWord (s.push16 v).bus (s.sp - 2#16) (hiByte v) (loByte v) := by
  have h1 : s.sp - 1#16 - 1#16 = s.sp - 2#16 := by bv_omega
  have h2 : s.sp - 1#16 = s.sp - 2#16 + 1#16 := by bv_omega
  rw [State.push16_bus, h1, h2]
  exact Bus.write_high_low ..

/-! Every store keeps the bus legal. -/

theorem Bus.wf_iff (b : Bus) : b.wf = true ↔
    0 < b.pageCount ∧ Memory.wf .rom (b.pageCount * 0x4000) b.rom = true ∧ Memory.wf .cartRam 0x8000 b.cartRam = true ∧
      Memory.wf .sysRam 0x2000 b.sysRam = true ∧ Memory.wf .latch 0x100 b.latch = true := by
  simp [Bus.wf, and_assoc]

/-- The locations of the map lie inside their stores. -/
def Loc.inside (b : Bus) : Loc → Prop
  | .rom off => off < b.pageCount * 0x4000
  | .cartRam off => off < 0x8000
  | .sysRam off => off < 0x2000
  | .ctrl | .page0 | .page1 | .page2 => True

theorem Bus.locate_inside {b : Bus} (h : 0 < b.pageCount) (a : Word) : (b.locate a).inside b := by
  have h0 := Nat.mod_lt b.page0.toNat h
  have h1 := Nat.mod_lt b.page1.toNat h
  have h2 := Nat.mod_lt b.page2.toNat h
  have hr : b.ramPage ≤ 1 := by unfold Bus.ramPage; cases b.ctrl.getLsbD 2 <;> simp
  have ha := a.isLt
  unfold Bus.locate Bus.pageBase
  dsimp only
  split_ifs <;> simp only [Loc.inside] <;> omega

theorem Bus.wf_store {b : Bus} {l : Loc} (v : Byte) (hl : l.inside b) (h : b.wf = true) : (b.store l v).wf = true := by
  rw [Bus.wf_iff] at h ⊢
  cases l <;> simp only [Bus.store, Loc.inside] at * <;> simp_all [Memory.wf_write]

theorem Bus.wf_write {b : Bus} (a : Word) (v : Byte) (h : b.wf = true) : (b.write a v).wf = true :=
  Bus.wf_store v (Bus.locate_inside ((Bus.wf_iff b).1 h).1 a) h

end Sys2Proof.Machine
end

