-- ==== Sys2Proof/Laws/Sample.lean ====
section
/-! SUPPORT. The floating-point arithmetic of PSG samples: results are numbers of the format, and no number of the format
lies between a result and the exact value. -/

namespace Sys2Proof

@[simp] theorem Sample.times_significand (x : Sample) (k : Int) : (x.times k).significand = k * x.significand := rfl
@[simp] theorem Sample.times_exponent (x : Sample) (k : Int) : (x.times k).exponent = x.exponent := rfl

theorem Sample.fits_iff (bits : Nat) (x : Sample) : x.fits bits = true ↔
    x = Sample.zero ∨ (2 ^ (bits - 1) ≤ x.significand.natAbs ∧ x.significand.natAbs < 2 ^ bits) := by
  simp [Sample.fits]

/-- Two spellings of a power of two with its exponent in units. -/
theorem two_pow_units {a b e : Int} (h : a ≤ b) (he : e ≤ a) :
    2 ^ (b - e).toNat = 2 ^ (b - a).toNat * 2 ^ (a - e).toNat := by
  rw [← pow_add]
  congr 1
  omega

/-- What the quotient by the dropped bits is. -/
theorem quotient_bounds {bits q : Nat} (hb : 0 < bits) (hq : 0 < q) (hl : bits < q.log2 + 1) :
    2 ^ (bits - 1) ≤ q / 2 ^ (q.log2 + 1 - bits) ∧ q / 2 ^ (q.log2 + 1 - bits) < 2 ^ bits := by
  have h1 := Nat.log2_self_le hq.ne'
  have h2 := Nat.lt_log2_self (n := q)
  constructor
  · rw [Nat.le_div_iff_mul_le (Nat.two_pow_pos _), ← pow_add]
    exact le_trans (le_of_eq (by congr 1; omega)) h1
  · rw [Nat.div_lt_iff_lt_mul (Nat.two_pow_pos _), ← pow_add]
    exact lt_of_lt_of_le h2 (le_of_eq (by congr 1; omega))

/-- The significand has its top bit set and no bit above it. -/
theorem roundMagnitude_fits {bits q : Nat} (away : Bool) (e : Int) (hb : 0 < bits) (hq : 0 < q) :
    2 ^ (bits - 1) ≤ (roundMagnitude bits away q e).1 ∧ (roundMagnitude bits away q e).1 < 2 ^ bits := by
  unfold roundMagnitude
  dsimp only
  split_ifs with hl _ hc
  · have h1 := Nat.log2_self_le hq.ne'
    have h2 := Nat.lt_log2_self (n := q)
    constructor
    · calc 2 ^ (bits - 1) = 2 ^ q.log2 * 2 ^ (bits - (q.log2 + 1)) := by rw [← pow_add]; congr 1; omega
        _ ≤ _ := Nat.mul_le_mul_right _ h1
    · calc q * 2 ^ (bits - (q.log2 + 1)) < 2 ^ (q.log2 + 1) * 2 ^ (bits - (q.log2 + 1)) :=
            Nat.mul_lt_mul_of_pos_right h2 (Nat.two_pow_pos _)
        _ = 2 ^ bits := by rw [← pow_add]; congr 1; omega
  · exact ⟨le_refl _, Nat.pow_lt_pow_right (by omega) (by omega)⟩
  · have := quotient_bounds hb hq (by omega)
    exact ⟨by omega, by omega⟩
  · exact quotient_bounds hb hq (by omega)

/-- The result in units of `2 ^ E` is the exact value, or one of the two multiples of the dropped unit `u` around it. -/
theorem roundMagnitude_cases {bits q : Nat} (away : Bool) {e E : Int} (hb : 0 < bits) (hE : E ≤ e)
    (hr : E ≤ (roundMagnitude bits away q e).2) :
    (roundMagnitude bits away q e).1 * 2 ^ ((roundMagnitude bits away q e).2 - E).toNat = q * 2 ^ (e - E).toNat ∨
    (bits < q.log2 + 1 ∧
      let drop := q.log2 + 1 - bits
      let u := 2 ^ (e + drop - E).toNat
      let m := q / 2 ^ drop
      let r := (roundMagnitude bits away q e).1 * 2 ^ ((roundMagnitude bits away q e).2 - E).toNat
      m * u ≤ q * 2 ^ (e - E).toNat ∧ q * 2 ^ (e - E).toNat < (m + 1) * u ∧
        (r = m * u ∨ (r = (m + 1) * u ∧ m * u < q * 2 ^ (e - E).toNat))) := by
  revert hr
  unfold roundMagnitude
  dsimp only
  split_ifs with hl ha hc
  · intro hr
    left
    rw [mul_assoc, ← pow_add]
    congr 2
    omega
  all_goals
    intro hr
    right
    refine ⟨by omega, ?_⟩
    have hu : (2 : Nat) ^ (e + ((q.log2 + 1 - bits : Nat) : Int) - E).toNat =
        2 ^ (q.log2 + 1 - bits) * 2 ^ (e - E).toNat := by
      rw [← pow_add]; congr 1; omega
    have hd := Nat.div_add_mod q (2 ^ (q.log2 + 1 - bits))
    have hm := Nat.mod_lt q (Nat.two_pow_pos (q.log2 + 1 - bits))
    have hp := Nat.two_pow_pos (e - E).toNat
    have h1 : q / 2 ^ (q.log2 + 1 - bits) * (2 ^ (q.log2 + 1 - bits) * 2 ^ (e - E).toNat) +
        q % 2 ^ (q.log2 + 1 - bits) * 2 ^ (e - E).toNat = q * 2 ^ (e - E).toNat := by
      conv_rhs => rw [← hd]
      ring
    have h2 : q % 2 ^ (q.log2 + 1 - bits) * 2 ^ (e - E).toNat < 2 ^ (q.log2 + 1 - bits) * 2 ^ (e - E).toNat :=
      Nat.mul_lt_mul_of_pos_right hm hp
    rw [hu]
    refine ⟨by omega, by rw [add_mul, one_mul]; omega, ?_⟩
  · right
    have h3 : 0 < q % 2 ^ (q.log2 + 1 - bits) * 2 ^ (e - E).toNat := by
      apply Nat.mul_pos _ hp
      simp at ha
      omega
    refine ⟨?_, by omega⟩
    rw [hc, ← hu, ← pow_add, ← pow_add]
    congr 1
    omega
  · right
    have h3 : 0 < q % 2 ^ (q.log2 + 1 - bits) * 2 ^ (e - E).toNat := by
      apply Nat.mul_pos _ hp
      simp at ha
      omega
    exact ⟨rfl, by omega⟩
  · left
    rfl

/-- A number of the format is below the multiple `m * u` of the dropped unit, or a multiple of `u` itself. -/
theorem below_or_multiple {bits W m : Nat} {x y E : Int} (hb : 0 < bits) (hW : W < 2 ^ bits) (hm : 2 ^ (bits - 1) ≤ m)
    (hx : E ≤ x) (hy : E ≤ y) :
    W * 2 ^ (x - E).toNat < m * 2 ^ (y - E).toNat ∨ ∃ k, W * 2 ^ (x - E).toNat = k * 2 ^ (y - E).toNat := by
  by_cases h : y ≤ x
  · right
    exact ⟨W * 2 ^ (x - y).toNat, by rw [two_pow_units h hy, mul_assoc]⟩
  · left
    calc W * 2 ^ (x - E).toNat < 2 ^ bits * 2 ^ (x - E).toNat := Nat.mul_lt_mul_of_pos_right hW (Nat.two_pow_pos _)
      _ ≤ 2 ^ (bits - 1) * 2 ^ (y - E).toNat := by
        rw [← pow_add, ← pow_add]
        exact Nat.pow_le_pow_right (by omega) (by omega)
      _ ≤ _ := Nat.mul_le_mul_right _ hm

/-- No number of the format lies beyond the result towards the exact value, that value included. -/
theorem roundMagnitude_nearest {bits q W : Nat} (away : Bool) {e x E : Int} (hb : 0 < bits) (hq : 0 < q)
    (hW : W < 2 ^ bits) (he : E ≤ e) (hx : E ≤ x) (hr : E ≤ (roundMagnitude bits away q e).2) :
    let r := (roundMagnitude bits away q e).1 * 2 ^ ((roundMagnitude bits away q e).2 - E).toNat
    let w := W * 2 ^ (x - E).toNat
    let s := q * 2 ^ (e - E).toNat
    ¬(r < w ∧ w ≤ s) ∧ ¬(s ≤ w ∧ w < r) := by
  intro r w s
  rcases roundMagnitude_cases (q := q) away hb he hr with h | ⟨hl, h1, h2, h3⟩
  · have h : r = s := h
    omega
  · have hk := below_or_multiple hb hW (quotient_bounds hb hq hl).1 hx (y := e + (q.log2 + 1 - bits : Nat)) (by omega)
    generalize q / 2 ^ (q.log2 + 1 - bits) = m at *
    generalize 2 ^ (e + ((q.log2 + 1 - bits : Nat) : Int) - E).toNat = u at *
    change m * u ≤ s at h1
    change s < (m + 1) * u at h2
    change r = m * u ∨ r = (m + 1) * u ∧ m * u < s at h3
    change w < m * u ∨ ∃ k, w = k * u at hk
    have step : m * u < (m + 1) * u := by omega
    rcases hk with hk | ⟨k, hk⟩
    · omega
    · have h4 : w ≤ m * u ∨ (m + 1) * u ≤ w := by
        rw [hk]
        rcases Nat.lt_or_ge m k with h | h
        · exact .inr (Nat.mul_le_mul_right _ h)
        · exact .inl (Nat.mul_le_mul_right _ h)
      omega

theorem Sample.round_fits {bits : Nat} (hb : 0 < bits) (n e : Int) : (Sample.round bits n e).fits bits = true := by
  rw [Sample.fits_iff]
  unfold Sample.round
  split_ifs with h
  · exact .inl rfl
  · right
    have := roundMagnitude_fits (Config.roundsAway n e) e hb (Int.natAbs_pos.2 h)
    simpa [Int.natAbs_mul, Int.natAbs_sign_of_ne_zero h] using this

theorem Sample.add_fits {c : Config} (hb : 0 < c.psgFloatBits) (x y : Sample) :
    (x.add c y).fits c.psgFloatBits = true :=
  Sample.round_fits hb ..

end Sys2Proof
end

