-- ==== Sys2Proof/Laws/Devices.lean ====
section
/-! SUPPORT. The VDP, the PSG and the model's record of notifications stay legal under every operation on them. -/

namespace Sys2Proof.Machine

/-! The picture. -/

theorem FrameBuffer.wfFrom_cons (height lo k : Nat) (px : List Rgba) (fb : FrameBuffer) :
    FrameBuffer.wfFrom height lo ((k, px) :: fb) = true ↔
      lo ≤ k ∧ k < height ∧ px.length = 256 ∧ px ≠ blankLine ∧ FrameBuffer.wfFrom height (k + 1) fb = true := by
  simp [FrameBuffer.wfFrom, and_assoc]

theorem FrameBuffer.wfFrom_setLine {height ln : Nat} {px : List Rgba} (hl : ln < height) (hp : px.length = 256)
    (hn : px ≠ blankLine) :
    ∀ {lo : Nat} {fb : FrameBuffer}, lo ≤ ln → FrameBuffer.wfFrom height lo fb = true →
      FrameBuffer.wfFrom height lo (fb.setLine ln px) = true
  | lo, [], hlo, _ => by simp [FrameBuffer.setLine, FrameBuffer.wfFrom, hlo, hl, hp, hn]
  | lo, (k, q) :: fb, hlo, h => by
    rw [FrameBuffer.wfFrom_cons] at h
    by_cases h1 : ln < k
    · simp only [FrameBuffer.setLine, h1, if_true]
      exact (FrameBuffer.wfFrom_cons ..).2 ⟨hlo, hl, hp, hn, (FrameBuffer.wfFrom_cons ..).2 ⟨h1, h.2⟩⟩
    · by_cases h2 : ln = k
      · subst h2
        simp only [FrameBuffer.setLine, h1, if_false, if_true]
        exact (FrameBuffer.wfFrom_cons ..).2 ⟨h.1, h.2.1, hp, hn, h.2.2.2.2⟩
      · simp only [FrameBuffer.setLine, h1, h2, if_false]
        exact (FrameBuffer.wfFrom_cons ..).2 ⟨h.1, h.2.1, h.2.2.1, h.2.2.2.1,
          FrameBuffer.wfFrom_setLine hl hp hn (by omega) h.2.2.2.2⟩

/-- The pixels of a line of the picture, if the line has been rendered. -/
theorem FrameBuffer.lookup_setLine (fb : FrameBuffer) (ln : Nat) (px : List Rgba) :
    (fb.setLine ln px).lookup ln = some px := by
  induction fb with
  | nil => simp [FrameBuffer.setLine]
  | cons c fb ih =>
    obtain ⟨k, q⟩ := c
    by_cases h1 : ln < k
    · simp [FrameBuffer.setLine, h1]
    · by_cases h2 : ln = k
      · simp [FrameBuffer.setLine, h2]
      · simp [FrameBuffer.setLine, h1, h2, List.lookup, ih, beq_eq_false_iff_ne.2 h2]

/-- Another line of the picture is as before. -/
theorem FrameBuffer.lookup_setLine_ne (fb : FrameBuffer) {ln k : Nat} (px : List Rgba) (h : k ≠ ln) :
    (fb.setLine ln px).lookup k = fb.lookup k := by
  induction fb with
  | nil => simp [FrameBuffer.setLine, h]
  | cons c fb ih =>
    obtain ⟨j, q⟩ := c
    by_cases h1 : ln < j
    · simp [FrameBuffer.setLine, h1, List.lookup, beq_eq_false_iff_ne.2 h]
    · by_cases h2 : ln = j
      · subst h2
        simp [FrameBuffer.setLine, List.lookup, beq_eq_false_iff_ne.2 h]
      · simp [FrameBuffer.setLine, h1, h2, List.lookup, ih]

@[simp] theorem FrameBuffer.line_setLine (fb : FrameBuffer) (ln : Nat) (px : List Rgba) :
    (fb.setLine ln px).line ln = px := by
  simp [FrameBuffer.line, FrameBuffer.lookup_setLine]

theorem FrameBuffer.line_setLine_ne (fb : FrameBuffer) {ln k : Nat} (px : List Rgba) (h : k ≠ ln) :
    (fb.setLine ln px).line k = fb.line k := by
  simp [FrameBuffer.line, FrameBuffer.lookup_setLine_ne fb px h]

/-- Before anything is drawn every pixel is blank. -/
@[simp] theorem FrameBuffer.line_nil (ln : Nat) : FrameBuffer.line [] ln = blankLine := rfl

/-- A line of colours is no blank line: alpha is 255 (60_exceptions.md rule R470). -/
theorem map_ofColour_ne_blankLine (f : Nat → BitVec 6) :
    (List.range 256).map (fun sx => Rgba.ofColour (f sx)) ≠ blankLine := by
  intro h
  have hm : Rgba.blank ∈ blankLine := List.mem_replicate.2 ⟨by omega, rfl⟩
  obtain ⟨sx, -, hx⟩ := List.mem_map.1 (h ▸ hm)
  exact absurd (congrArg Rgba.alpha hx) (show (255#8 : Byte) ≠ 0x00#8 by decide)

/-! The VDP. -/

theorem Vdp.wf_iff (c : Config) (v : Vdp) : v.wf c = true ↔
    Memory.wf .vram 0x4000 v.vram = true ∧ v.hc < c.cyclesPerLine ∧ v.line < c.linesPerFrame ∧
      FrameBuffer.wfFrom c.activeHeight 0 v.fb = true := by
  simp [Vdp.wf, and_assoc]

theorem Vdp.wf_congr {c : Config} {v w : Vdp} (hm : w.vram = v.vram) (hh : w.hc = v.hc) (hl : w.line = v.line)
    (hf : w.fb = v.fb) (h : v.wf c = true) : w.wf c = true := by
  rw [Vdp.wf, hm, hh, hl, hf]
  exact h

theorem Vdp.wf_controlWrite {c : Config} {v : Vdp} (w : Byte) (h : v.wf c = true) : (v.controlWrite w).wf c = true := by
  unfold Vdp.controlWrite
  dsimp only
  split_ifs <;> exact Vdp.wf_congr rfl rfl rfl rfl h

theorem Vdp.wf_dataWrite {c : Config} {v : Vdp} (w : Byte) (h : v.wf c = true) : (v.dataWrite w).wf c = true := by
  unfold Vdp.dataWrite
  dsimp only
  split_ifs
  · exact Vdp.wf_congr rfl rfl rfl rfl h
  · have := (Vdp.wf_iff c v).1 h
    exact (Vdp.wf_iff ..).2 ⟨Memory.wf_write v.addr.isLt this.1, this.2⟩

theorem Vdp.wf_dataRead {c : Config} {v : Vdp} (h : v.wf c = true) : v.dataRead.2.wf c = true :=
  Vdp.wf_congr rfl rfl rfl rfl h

theorem Vdp.wf_statusRead {c : Config} {v : Vdp} (u : BitVec 5) (h : v.wf c = true) :
    (v.statusRead u).2.wf c = true :=
  Vdp.wf_congr rfl rfl rfl rfl h

theorem Vdp.wf_renderLine {c : Config} {v : Vdp} {ln : Nat} (hl : ln < c.activeHeight) (h : v.wf c = true) :
    (v.renderLine ln).wf c = true := by
  have h' := (Vdp.wf_iff c v).1 h
  unfold Vdp.renderLine
  dsimp only
  split <;>
    exact (Vdp.wf_iff ..).2 ⟨h'.1, h'.2.1, h'.2.2.1,
      FrameBuffer.wfFrom_setLine hl (by rw [List.length_map, List.length_range]) (map_ofColour_ne_blankLine _)
        (Nat.zero_le _) h'.2.2.2⟩

/-- The line counter and the pending flags of an end of line leave memory, picture and position alone. -/
theorem Vdp.countLine_frame (c : Config) (v : Vdp) : (v.countLine c).vram = v.vram ∧ (v.countLine c).hc = v.hc ∧
    (v.countLine c).line = v.line ∧ (v.countLine c).fb = v.fb ∧ (v.countLine c).reg = v.reg := by
  unfold Vdp.countLine
  split_ifs <;> simp

theorem Vdp.frameInt_frame (c : Config) (v : Vdp) : (v.frameInt c).vram = v.vram ∧ (v.frameInt c).hc = v.hc ∧
    (v.frameInt c).line = v.line ∧ (v.frameInt c).fb = v.fb ∧ (v.frameInt c).reg = v.reg := by
  unfold Vdp.frameInt
  split_ifs <;> simp

theorem Vdp.wf_endOfLine {c : Config} {v : Vdp} (hc : 0 < c.linesPerFrame) (h : v.wf c = true) :
    (v.endOfLine c).wf c = true := by
  have h' := (Vdp.wf_iff c v).1 h
  have h1 : ({ v with line := (v.line + 1) % c.linesPerFrame } : Vdp).wf c = true :=
    (Vdp.wf_iff ..).2 ⟨h'.1, h'.2.1, Nat.mod_lt _ hc, h'.2.2.2⟩
  obtain ⟨a1, a2, a3, a4, -⟩ := Vdp.countLine_frame c { v with line := (v.line + 1) % c.linesPerFrame }
  have h2 := Vdp.wf_congr a1 a2 a3 a4 h1
  obtain ⟨b1, b2, b3, b4, -⟩ :=
    Vdp.frameInt_frame c (Vdp.countLine c { v with line := (v.line + 1) % c.linesPerFrame })
  have h3 := Vdp.wf_congr b1 b2 b3 b4 h2
  unfold Vdp.endOfLine
  dsimp only
  split
  · next hl => exact Vdp.wf_renderLine hl h3
  · exact h3

theorem Vdp.wf_endOfLines {c : Config} (hc : 0 < c.linesPerFrame) :
    ∀ (n : Nat) {v : Vdp}, v.wf c = true → (Vdp.endOfLines c n v).1.wf c = true
  | 0, _, h => h
  | n + 1, _, h => Vdp.wf_endOfLines hc n (Vdp.wf_endOfLine hc h)

theorem Vdp.wf_update {c : Config} {v : Vdp} (t : Nat) (hc : 0 < c.cyclesPerLine) (hl : 0 < c.linesPerFrame)
    (h : v.wf c = true) : (v.update c t).1.wf c = true := by
  have h' := (Vdp.wf_iff c v).1 h
  unfold Vdp.update
  dsimp only
  rw [if_neg (by omega)]
  exact Vdp.wf_endOfLines hl _ ((Vdp.wf_iff ..).2 ⟨h'.1, Nat.mod_lt _ hc, h'.2.2⟩)

/-! The PSG. -/

theorem Psg.wf_iff (c : Config) (p : Psg) : p.wf c = true ↔
    p.acc < c.psgCyclesPerSample ∧ p.lfsr ≠ 0#15 ∧ p.wr < c.psgOutLength ∧ p.out.length ≤ c.psgOutLength ∧
      p.wr ≤ p.out.length ∧ ∀ x ∈ p.out, x.fits c.psgFloatBits = true := by
  simp [Psg.wf, and_assoc]

theorem Psg.wf_congr {c : Config} (p : Psg) {q : Psg} (ha : q.acc = p.acc) (hl : q.lfsr ≠ 0#15) (hw : q.wr = p.wr)
    (ho : q.out = p.out) (h : p.wf c = true) : q.wf c = true := by
  have h' := (Psg.wf_iff c p).1 h
  exact (Psg.wf_iff ..).2 ⟨ha ▸ h'.1, hl, hw ▸ h'.2.2.1, ho ▸ h'.2.2.2.1, hw ▸ ho ▸ h'.2.2.2.2.1,
    ho ▸ h'.2.2.2.2.2⟩

theorem Psg.wf_toTarget {c : Config} {p : Psg} (v : Byte) (b : Bool) (h : p.wf c = true) :
    (p.toTarget v b).wf c = true := by
  have hl := ((Psg.wf_iff c p).1 h).2.1
  unfold Psg.toTarget
  dsimp only
  split_ifs
  · exact Psg.wf_congr p rfl hl rfl rfl h
  · exact Psg.wf_congr p rfl hl rfl rfl h
  · exact Psg.wf_congr p rfl hl rfl rfl h
  · exact Psg.wf_congr p rfl (show (0x4000#15 : BitVec 15) ≠ 0#15 by decide) rfl rfl h

theorem Psg.wf_write {c : Config} {p : Psg} (v : Byte) (h : p.wf c = true) : (p.write v).wf c = true := by
  have hl := ((Psg.wf_iff c p).1 h).2.1
  unfold Psg.write
  split
  · exact Psg.wf_toTarget v true (Psg.wf_congr p rfl hl rfl rfl h)
  · exact Psg.wf_toTarget v false h

/-- A tone step touches the tone channels' counters and polarities only. -/
theorem Psg.toneStep_frame (c : Config) (p : Psg) (ch : Nat) : (p.toneStep c ch).acc = p.acc ∧
    (p.toneStep c ch).lfsr = p.lfsr ∧ (p.toneStep c ch).wr = p.wr ∧ (p.toneStep c ch).out = p.out := by
  unfold Psg.toneStep
  dsimp only
  split_ifs <;> simp

theorem Psg.wf_toneStep {c : Config} {p : Psg} (ch : Nat) (h : p.wf c = true) : (p.toneStep c ch).wf c = true := by
  obtain ⟨h1, h2, h3, h4⟩ := Psg.toneStep_frame c p ch
  exact Psg.wf_congr p h1 (h2 ▸ ((Psg.wf_iff c p).1 h).2.1) h3 h4 h

/-- The shifted noise register is never all zeros (60_exceptions.md rule R508). -/
theorem Psg.shifted_ne (c : Config) (p : Psg) : p.shifted c ≠ 0#15 := by
  unfold Psg.shifted
  dsimp only
  split
  · decide
  · assumption

theorem Psg.wf_noiseStep {c : Config} {p : Psg} (h : p.wf c = true) : (p.noiseStep c).wf c = true := by
  have hl := ((Psg.wf_iff c p).1 h).2.1
  unfold Psg.noiseStep
  dsimp only
  split
  · exact Psg.wf_congr p rfl (Psg.shifted_ne c p) rfl rfl h
  · exact Psg.wf_congr p rfl hl rfl rfl h

/-- A mixed sample is a number of the format. -/
theorem Psg.mix_fits {c : Config} (hb : 0 < c.psgFloatBits) (p : Psg) : (p.mix c).fits c.psgFloatBits = true :=
  Sample.add_fits hb ..

theorem Psg.wf_emit {c : Config} {p : Psg} {x : Sample} (hx : x.fits c.psgFloatBits = true) (h : p.wf c = true) :
    (p.emit c x).wf c = true := by
  obtain ⟨h1, h2, h3, h4, h5, h6⟩ := (Psg.wf_iff c p).1 h
  refine (Psg.wf_iff ..).2 ⟨h1, h2, Nat.mod_lt _ (by omega), ?_, ?_, ?_⟩
  · unfold Psg.emit
    dsimp only
    split <;> simp <;> omega
  · have hm := Nat.mod_le (p.wr + 1) c.psgOutLength
    unfold Psg.emit
    dsimp only
    split <;> simp <;> omega
  · intro y hy
    unfold Psg.emit at hy
    dsimp only at hy
    split at hy
    · exact (List.mem_or_eq_of_mem_set hy).elim (h6 y) (· ▸ hx)
    · exact (List.mem_append.1 hy).elim (h6 y) (List.mem_singleton.1 · ▸ hx)

theorem Psg.wf_sampleStep {c : Config} {p : Psg} (hb : 0 < c.psgFloatBits) (h : p.wf c = true) :
    (p.sampleStep c).wf c = true :=
  Psg.wf_emit (Psg.mix_fits hb _) (Psg.wf_noiseStep (Psg.wf_toneStep 2 (Psg.wf_toneStep 1 (Psg.wf_toneStep 0 h))))

theorem Psg.wf_sampleSteps {c : Config} (hb : 0 < c.psgFloatBits) :
    ∀ (n : Nat) {p : Psg}, p.wf c = true → (Psg.sampleSteps c n p).wf c = true
  | 0, _, h => h
  | n + 1, _, h => Psg.wf_sampleSteps hb n (Psg.wf_sampleStep hb h)

theorem Psg.wf_update {c : Config} {p : Psg} (t : Nat) (hc : 0 < c.psgCyclesPerSample) (hb : 0 < c.psgFloatBits)
    (h : p.wf c = true) : (p.update c t).wf c = true := by
  have h' := (Psg.wf_iff c p).1 h
  unfold Psg.update
  rw [if_neg (by omega)]
  exact Psg.wf_sampleSteps hb _ ((Psg.wf_iff ..).2 ⟨Nat.mod_lt _ hc, h'.2⟩)

/-! The notifications. -/

theorem Notices.wf_countSamples {c : Config} {k : Notices} (n : Nat) (hc : 0 < c.psgReadySamples) :
    (k.countSamples c n).wf c = true := by
  unfold Notices.countSamples Notices.wf
  dsimp only
  rw [if_neg (by omega)]
  simpa using Nat.mod_lt _ hc

end Sys2Proof.Machine
end

