-- ==== Sys2Proof/Laws/Flags.lean ====
section
/-! SUPPORT. The packed flag byte: unpacking and packing are inverse, and each bit of a packed byte by name. Then one
lemma for each flag computation of Machine/Flags.lean: its value and its eight flags in plain arithmetic. -/

namespace Sys2Proof.Machine

@[simp] theorem Flags.ofByte_toByte (fl : Flags) : Flags.ofByte fl.toByte = fl := by
  obtain ⟨s, z, y, h, x, pv, n, c⟩ := fl
  cases s <;> cases z <;> cases y <;> cases h <;> cases x <;> cases pv <;> cases n <;> cases c <;> rfl

@[simp] theorem Flags.toByte_ofByte (f : Byte) : (Flags.ofByte f).toByte = f := by
  revert f
  decide

theorem Flags.ext' {a b : Flags} (h : a.toByte = b.toByte) : a = b := by
  rw [← Flags.ofByte_toByte a, h, Flags.ofByte_toByte]

/-- The bits of a packed byte (10_state.md rule R24). -/
theorem Flags.bits (fl : Flags) : flagBits fl.toByte fl.s fl.z fl.y fl.h fl.x fl.pv fl.n fl.c := by
  obtain ⟨s, z, y, h, x, pv, n, c⟩ := fl
  cases s <;> cases z <;> cases y <;> cases h <;> cases x <;> cases pv <;> cases n <;> cases c <;>
    simp [flagBits, Flags.toByte]

/-- The bits of a packed byte, each replaced by what it is shown to equal. -/
theorem Flags.bits_of (fl : Flags) {s z y h x pv n c : Bool} (hs : fl.s = s) (hz : fl.z = z) (hy : fl.y = y)
    (hh : fl.h = h) (hx : fl.x = x) (hpv : fl.pv = pv) (hn : fl.n = n) (hc : fl.c = c) :
    flagBits fl.toByte s z y h x pv n c := by
  subst hs hz hy hh hx hpv hn hc
  exact fl.bits

@[simp] theorem State.setFlags_flags (s : State) (fl : Flags) : (s.setFlags fl).flags = fl := Flags.ofByte_toByte fl

/-! Bits and numbers. -/

theorem low_nibble (a : Byte) : (a &&& 0x0F#8).toNat = a.toNat % 16 := by
  rw [BitVec.toNat_and]
  exact Nat.and_two_pow_sub_one_eq_mod a.toNat 4

theorem low_twelve (a : Word) : (a &&& 0x0FFF#16).toNat = a.toNat % 4096 := by
  rw [BitVec.toNat_and]
  exact Nat.and_two_pow_sub_one_eq_mod a.toNat 12

theorem sign8 (v : Byte) : v.getLsbD 7 = decide (128 ≤ v.toNat) := by
  simpa [BitVec.msb_eq_getLsbD_last] using BitVec.msb_eq_decide v

theorem sign16 (v : Word) : v.getLsbD 15 = decide (32768 ≤ v.toNat) := by
  simpa [BitVec.msb_eq_getLsbD_last] using BitVec.msb_eq_decide v

theorem signed8 (v : Byte) : v.toInt = if 128 ≤ v.toNat then (v.toNat : Int) - 256 else v.toNat := by
  rw [BitVec.toInt_eq_toNat_cond]
  have := v.isLt
  split <;> split <;> omega

theorem signed16 (v : Word) : v.toInt = if 32768 ≤ v.toNat then (v.toNat : Int) - 65536 else v.toNat := by
  rw [BitVec.toInt_eq_toNat_cond]
  have := v.isLt
  split <;> split <;> omega

theorem eq_zero8 (v : Byte) : decide (v = 0#8) = decide (v.toNat = 0) := by
  rw [Bool.eq_iff_iff]
  simp [← BitVec.toNat_inj]

theorem eq_zero16 (v : Word) : decide (v = 0#16) = decide (v.toNat = 0) := by
  rw [Bool.eq_iff_iff]
  simp [← BitVec.toNat_inj]

theorem parity_ones (v : Byte) : parity v = decide (ones v % 2 = 0) := by
  unfold parity ones
  generalize v.getLsbD 0 = a, v.getLsbD 1 = b, v.getLsbD 2 = c, v.getLsbD 3 = d, v.getLsbD 4 = e, v.getLsbD 5 = f,
    v.getLsbD 6 = g, v.getLsbD 7 = h
  revert a b c d e f g h
  decide

/-- Overflow of a sum: two addends of one sign and a sum of the other. -/
theorem overflow_add8 (a b : Byte) {c : Nat} (hc : c ≤ 1) :
    ((a ^^^ BitVec.ofNat 8 (a.toNat + b.toNat + c)) &&& (b ^^^ BitVec.ofNat 8 (a.toNat + b.toNat + c))).getLsbD 7 =
      decide (a.toInt + b.toInt + c < -128 ∨ 127 < a.toInt + b.toInt + c) := by
  have ha := a.isLt
  have hb := b.isLt
  rw [BitVec.getLsbD_and, BitVec.getLsbD_xor, BitVec.getLsbD_xor, sign8, sign8, sign8, signed8, signed8,
    BitVec.toNat_ofNat]
  by_cases h1 : 128 ≤ a.toNat <;> by_cases h2 : 128 ≤ b.toNat <;>
    by_cases h3 : 128 ≤ (a.toNat + b.toNat + c) % 2 ^ 8 <;> simp only [h1, h2, h3, decide_true, decide_false, if_true, if_false, Bool.xor_false, Bool.xor_true, Bool.not_true,
      Bool.not_false, Bool.and_true, Bool.and_false] <;>
    first
    | exact (decide_eq_true (by omega)).symm
    | exact (decide_eq_false (by omega)).symm

/-- Overflow of a difference: operands of different signs and a difference of the subtrahend's sign. -/
theorem overflow_sub8 (a b : Byte) {c : Nat} (hc : c ≤ 1) :
    ((a ^^^ b) &&& (a ^^^ BitVec.ofInt 8 ((a.toNat : Int) - b.toNat - c))).getLsbD 7 =
      decide (a.toInt - b.toInt - c < -128 ∨ 127 < a.toInt - b.toInt - c) := by
  have ha := a.isLt
  have hb := b.isLt
  rw [BitVec.getLsbD_and, BitVec.getLsbD_xor, BitVec.getLsbD_xor, sign8, sign8, sign8, signed8, signed8,
    BitVec.toNat_ofInt]
  by_cases h1 : 128 ≤ a.toNat <;> by_cases h2 : 128 ≤ b.toNat <;>
    by_cases h3 : 128 ≤ (((a.toNat : Int) - b.toNat - c) % (2 ^ 8 : Nat)).toNat <;> simp only [h1, h2, h3, decide_true, decide_false, if_true, if_false, Bool.xor_false, Bool.xor_true, Bool.not_true,
      Bool.not_false, Bool.and_true, Bool.and_false] <;>
    first
    | exact (decide_eq_true (by omega)).symm
    | exact (decide_eq_false (by omega)).symm

theorem overflow_add16 (a b : Word) {c : Nat} (hc : c ≤ 1) :
    ((a ^^^ BitVec.ofNat 16 (a.toNat + b.toNat + c)) &&& (b ^^^ BitVec.ofNat 16 (a.toNat + b.toNat + c))).getLsbD 15 =
      decide (a.toInt + b.toInt + c < -32768 ∨ 32767 < a.toInt + b.toInt + c) := by
  have ha := a.isLt
  have hb := b.isLt
  rw [BitVec.getLsbD_and, BitVec.getLsbD_xor, BitVec.getLsbD_xor, sign16, sign16, sign16, signed16, signed16,
    BitVec.toNat_ofNat]
  by_cases h1 : 32768 ≤ a.toNat <;> by_cases h2 : 32768 ≤ b.toNat <;>
    by_cases h3 : 32768 ≤ (a.toNat + b.toNat + c) % 2 ^ 16 <;> simp only [h1, h2, h3, decide_true, decide_false, if_true, if_false, Bool.xor_false, Bool.xor_true, Bool.not_true,
      Bool.not_false, Bool.and_true, Bool.and_false] <;>
    first
    | exact (decide_eq_true (by omega)).symm
    | exact (decide_eq_false (by omega)).symm

theorem overflow_sub16 (a b : Word) {c : Nat} (hc : c ≤ 1) :
    ((a ^^^ b) &&& (a ^^^ BitVec.ofInt 16 ((a.toNat : Int) - b.toNat - c))).getLsbD 15 =
      decide (a.toInt - b.toInt - c < -32768 ∨ 32767 < a.toInt - b.toInt - c) := by
  have ha := a.isLt
  have hb := b.isLt
  rw [BitVec.getLsbD_and, BitVec.getLsbD_xor, BitVec.getLsbD_xor, sign16, sign16, sign16, signed16, signed16,
    BitVec.toNat_ofInt]
  by_cases h1 : 32768 ≤ a.toNat <;> by_cases h2 : 32768 ≤ b.toNat <;>
    by_cases h3 : 32768 ≤ (((a.toNat : Int) - b.toNat - c) % (2 ^ 16 : Nat)).toNat <;> simp only [h1, h2, h3, decide_true, decide_false, if_true, if_false, Bool.xor_false, Bool.xor_true, Bool.not_true,
      Bool.not_false, Bool.and_true, Bool.and_false] <;>
    first
    | exact (decide_eq_true (by omega)).symm
    | exact (decide_eq_false (by omega)).symm

/-! The flag computations. -/

theorem add8_value (a b : Byte) (c : Bool) : (add8 a b c).1.toNat = (a.toNat + b.toNat + c.toNat) % 256 := by
  simp [add8]

theorem add8_flags (a b : Byte) (c : Bool) :
    flagBits (add8 a b c).2.toByte (decide (128 ≤ (a.toNat + b.toNat + c.toNat) % 256))
      (decide ((a.toNat + b.toNat + c.toNat) % 256 = 0)) ((add8 a b c).1.getLsbD 5)
      (decide (15 < a.toNat % 16 + b.toNat % 16 + c.toNat)) ((add8 a b c).1.getLsbD 3)
      (decide (a.toInt + b.toInt + c.toNat < -128 ∨ 127 < a.toInt + b.toInt + c.toNat)) false
      (decide (255 < a.toNat + b.toNat + c.toNat)) := by
  refine Flags.bits_of _ ?_ ?_ rfl ?_ rfl (overflow_add8 a b (Bool.toNat_le c)) rfl rfl
  · rw [← add8_value, ← sign8]
    rfl
  · rw [← add8_value, ← eq_zero8]
    rfl
  · simp only [add8, low_nibble]

theorem sub8_value (a b : Byte) (c : Bool) :
    ((sub8 a b c).1.toNat : Int) = ((a.toNat : Int) - b.toNat - c.toNat) % 256 := by
  simp only [sub8, BitVec.toNat_ofInt]
  omega

theorem sub8_flags (a b : Byte) (c : Bool) :
    flagBits (sub8 a b c).2.toByte (decide (128 ≤ ((a.toNat : Int) - b.toNat - c.toNat) % 256))
      (decide (((a.toNat : Int) - b.toNat - c.toNat) % 256 = 0)) ((sub8 a b c).1.getLsbD 5)
      (decide (a.toNat % 16 < b.toNat % 16 + c.toNat)) ((sub8 a b c).1.getLsbD 3)
      (decide (a.toInt - b.toInt - c.toNat < -128 ∨ 127 < a.toInt - b.toInt - c.toNat)) true
      (decide ((a.toNat : Int) - b.toNat - c.toNat < 0)) := by
  refine Flags.bits_of _ ?_ ?_ rfl ?_ rfl (overflow_sub8 a b (Bool.toNat_le c)) rfl rfl
  · rw [← sub8_value]
    exact (sign8 _).trans (decide_eq_decide.2 (Int.ofNat_le (m := 128)).symm)
  · rw [← sub8_value]
    exact (eq_zero8 _).trans (decide_eq_decide.2 Int.natCast_eq_zero.symm)
  · simp only [sub8, low_nibble]
    refine decide_eq_decide.2 ?_
    omega

theorem logic8_flags (r : Byte) (h : Bool) :
    flagBits (logic8 r h).2.toByte (r.getLsbD 7) (decide (r = 0#8)) (r.getLsbD 5) h (r.getLsbD 3)
      (decide (ones r % 2 = 0)) false false :=
  Flags.bits_of _ rfl rfl rfl rfl rfl (parity_ones r) rfl rfl

theorem inc8_value (v : Byte) (fl : Flags) : (inc8 v fl).1.toNat = (v.toNat + 1) % 256 := by
  simp [inc8]

theorem inc8_flags (v f : Byte) :
    flagBits (inc8 v (Flags.ofByte f)).2.toByte (decide (128 ≤ (inc8 v (Flags.ofByte f)).1.toNat))
      (decide ((inc8 v (Flags.ofByte f)).1.toNat = 0)) ((inc8 v (Flags.ofByte f)).1.getLsbD 5)
      (decide (v.toNat % 16 = 15)) ((inc8 v (Flags.ofByte f)).1.getLsbD 3) (decide (v.toNat = 127)) false
      (f.getLsbD 0) := by
  refine Flags.bits_of _ (sign8 _) (eq_zero8 _) rfl ?_ rfl ?_ rfl rfl
  · rw [← low_nibble]
    exact decide_eq_decide.2 BitVec.toNat_inj.symm
  · exact decide_eq_decide.2 BitVec.toNat_inj.symm

theorem dec8_value (v : Byte) (fl : Flags) : (dec8 v fl).1.toNat = (v.toNat + 255) % 256 := by
  simp [dec8]
  omega

theorem dec8_flags (v f : Byte) :
    flagBits (dec8 v (Flags.ofByte f)).2.toByte (decide (128 ≤ (dec8 v (Flags.ofByte f)).1.toNat))
      (decide ((dec8 v (Flags.ofByte f)).1.toNat = 0)) ((dec8 v (Flags.ofByte f)).1.getLsbD 5)
      (decide (v.toNat % 16 = 0)) ((dec8 v (Flags.ofByte f)).1.getLsbD 3) (decide (v.toNat = 128)) true
      (f.getLsbD 0) := by
  refine Flags.bits_of _ (sign8 _) (eq_zero8 _) rfl ?_ rfl ?_ rfl rfl
  · rw [← low_nibble]
    exact decide_eq_decide.2 BitVec.toNat_inj.symm
  · exact decide_eq_decide.2 BitVec.toNat_inj.symm

theorem add16_value (a b : Word) (fl : Flags) : (add16 a b fl).1.toNat = (a.toNat + b.toNat) % 65536 := by
  simp [add16]

theorem add16_flags (a b : Word) (f : Byte) :
    flagBits (add16 a b (Flags.ofByte f)).2.toByte (f.getLsbD 7) (f.getLsbD 6)
      ((add16 a b (Flags.ofByte f)).1.getLsbD 13) (decide (4095 < a.toNat % 4096 + b.toNat % 4096))
      ((add16 a b (Flags.ofByte f)).1.getLsbD 11) (f.getLsbD 2) false (decide (65535 < a.toNat + b.toNat)) := by
  refine Flags.bits_of _ rfl rfl rfl ?_ rfl rfl rfl rfl
  simp only [add16, low_twelve]

theorem adc16_value (a b : Word) (c : Bool) :
    (adc16 a b c).1.toNat = (a.toNat + b.toNat + c.toNat) % 65536 := by
  simp [adc16]

theorem adc16_flags (a b : Word) (c : Bool) :
    flagBits (adc16 a b c).2.toByte ((adc16 a b c).1.getLsbD 15) (decide ((adc16 a b c).1.toNat = 0))
      ((adc16 a b c).1.getLsbD 13) (decide (4095 < a.toNat % 4096 + b.toNat % 4096 + c.toNat))
      ((adc16 a b c).1.getLsbD 11)
      (decide (a.toInt + b.toInt + c.toNat < -32768 ∨ 32767 < a.toInt + b.toInt + c.toNat)) false
      (decide (65535 < a.toNat + b.toNat + c.toNat)) := by
  refine Flags.bits_of _ rfl (eq_zero16 _) rfl ?_ rfl (overflow_add16 a b (Bool.toNat_le c)) rfl rfl
  simp only [adc16, low_twelve]

theorem sbc16_value (a b : Word) (c : Bool) :
    ((sbc16 a b c).1.toNat : Int) = ((a.toNat : Int) - b.toNat - c.toNat) % 65536 := by
  simp only [sbc16, BitVec.toNat_ofInt]
  omega

theorem sbc16_flags (a b : Word) (c : Bool) :
    flagBits (sbc16 a b c).2.toByte ((sbc16 a b c).1.getLsbD 15) (decide ((sbc16 a b c).1.toNat = 0))
      ((sbc16 a b c).1.getLsbD 13) (decide (a.toNat % 4096 < b.toNat % 4096 + c.toNat))
      ((sbc16 a b c).1.getLsbD 11)
      (decide (a.toInt - b.toInt - c.toNat < -32768 ∨ 32767 < a.toInt - b.toInt - c.toNat)) true
      (decide ((a.toNat : Int) - b.toNat - c.toNat < 0)) := by
  refine Flags.bits_of _ rfl (eq_zero16 _) rfl ?_ rfl (overflow_sub16 a b (Bool.toNat_le c)) rfl rfl
  simp only [sbc16, low_twelve]
  refine decide_eq_decide.2 ?_
  omega

theorem rotate_value (op : Rot) (v : Byte) (c : Bool) :
    (rotate op v c).1.toNat = shiftedNat op v.toNat c.toNat := by
  revert v
  cases op <;> cases c <;> decide

theorem rotate_carry (op : Rot) (v : Byte) (c : Bool) : (rotate op v c).2 = shiftedOut op v.toNat := by
  revert v
  cases op <;> cases c <;> decide

theorem rotFlags_bits (r : Byte) (co : Bool) :
    flagBits (rotFlags r co).toByte (r.getLsbD 7) (decide (r = 0#8)) (r.getLsbD 5) false (r.getLsbD 3)
      (decide (ones r % 2 = 0)) false co :=
  Flags.bits_of _ rfl rfl rfl rfl rfl (parity_ones r) rfl rfl

theorem daa_correction (n h c : Bool) (a : Byte) :
    ((if n then a - ((if h || decide (9 < a.toNat % 16) then 0x06#8 else 0x00#8) |||
          (if c || decide (0x99 < a.toNat) then 0x60#8 else 0x00#8))
        else a + ((if h || decide (9 < a.toNat % 16) then 0x06#8 else 0x00#8) |||
          (if c || decide (0x99 < a.toNat) then 0x60#8 else 0x00#8))).toNat : Int) =
      (if n then (a.toNat : Int) - ((if h = true ∨ 9 < a.toNat % 16 then 6 else 0) +
          (if c = true ∨ 0x99 < a.toNat then 0x60 else 0))
        else a.toNat + ((if h = true ∨ 9 < a.toNat % 16 then 6 else 0) +
          (if c = true ∨ 0x99 < a.toNat then 0x60 else 0))) % 256 := by
  revert a
  cases n <;> cases h <;> cases c <;> decide

theorem daa8_value (a : Byte) (fl : Flags) :
    ((daa8 a fl).1.toNat : Int) =
      (if fl.n then (a.toNat : Int) - ((if fl.h = true ∨ 9 < a.toNat % 16 then 6 else 0) +
          (if fl.c = true ∨ 0x99 < a.toNat then 0x60 else 0))
        else a.toNat + ((if fl.h = true ∨ 9 < a.toNat % 16 then 6 else 0) +
          (if fl.c = true ∨ 0x99 < a.toNat then 0x60 else 0))) % 256 := by
  rw [← daa_correction]
  simp only [daa8, low_nibble]

theorem daa8_flags (a f : Byte) :
    flagBits (daa8 a (Flags.ofByte f)).2.toByte ((daa8 a (Flags.ofByte f)).1.getLsbD 7)
      (decide ((daa8 a (Flags.ofByte f)).1.toNat = 0)) ((daa8 a (Flags.ofByte f)).1.getLsbD 5)
      (if f.getLsbD 1 then f.getLsbD 4 && decide (a.toNat % 16 < 6) else decide (9 < a.toNat % 16))
      ((daa8 a (Flags.ofByte f)).1.getLsbD 3) (decide (ones (daa8 a (Flags.ofByte f)).1 % 2 = 0)) (f.getLsbD 1)
      (f.getLsbD 0 || decide (0x99 < a.toNat)) := by
  refine Flags.bits_of _ rfl (eq_zero8 _) rfl ?_ rfl (parity_ones _) rfl rfl
  simp only [daa8, low_nibble]
  rfl

/-- Setting the bit `b` of a byte. -/
theorem set_bit (v : Byte) (b : BitVec 3) (k : Nat) (hk : k < 8) :
    (v ||| bitMask b).getLsbD k = if k = b.toNat then true else v.getLsbD k := by
  have hb := b.isLt
  simp only [bitMask, BitVec.getLsbD_or, BitVec.getLsbD_shiftLeft, BitVec.getLsbD_one]
  split <;> simp <;> omega

/-- Clearing the bit `b` of a byte. -/
theorem reset_bit (v : Byte) (b : BitVec 3) (k : Nat) (hk : k < 8) :
    (v &&& ~~~bitMask b).getLsbD k = if k = b.toNat then false else v.getLsbD k := by
  have hb := b.isLt
  simp only [bitMask, BitVec.getLsbD_and, BitVec.getLsbD_not, BitVec.getLsbD_shiftLeft, BitVec.getLsbD_one]
  split <;> simp <;> omega

end Sys2Proof.Machine
end

