-- ==== Sys2Proof/Laws/Frame.lean ====
section
/-! SUPPORT. How a frame is shown: one equation for each piece of state that is not named; memory then follows. -/

namespace Sys2Proof.Machine

/-- The memory clause of a frame follows from the clause for the bus. -/
theorem State.changesOnly_of {s t : State} {ps : List Part} (h : ∀ p, p ∉ ps → s.agrees t p) : s.changesOnly t ps := by
  refine ⟨h, fun hb a => ?_⟩
  have e : t.bus = s.bus := h .bus hb
  unfold State.memRead
  rw [e]

theorem State.changesOnly_refl (s : State) (ps : List Part) : s.changesOnly s ps :=
  State.changesOnly_of fun p _ => by cases p <;> rfl

/-- A longer list of names is a weaker frame. -/
theorem State.changesOnly.mono {s t : State} {ps qs : List Part} (h : s.changesOnly t ps) (hs : ∀ p ∈ ps, p ∈ qs) :
    s.changesOnly t qs :=
  State.changesOnly_of fun p hp => h.1 p fun hq => hp (hs p hq)

theorem State.changesOnly.trans {s t u : State} {ps : List Part} (h : s.changesOnly t ps) (k : t.changesOnly u ps) :
    s.changesOnly u ps := by
  refine State.changesOnly_of fun p hp => ?_
  have h := h.1 p hp
  have k := k.1 p hp
  cases p <;> exact Eq.trans k h

end Sys2Proof.Machine
end

