-- ==== Sys2Proof/Laws/Operands.lean ====
section
/-! SUPPORT. Words and their halves, and the operand forms: what is written through a form is read back through it. -/

namespace Sys2Proof.Machine

/-! Words and their halves. -/

theorem loByte_toNat (v : Word) : (loByte v).toNat = v.toNat % 256 := by
  simp [loByte]

theorem hiByte_toNat (v : Word) : (hiByte v).toNat = v.toNat / 256 := by
  have := v.isLt
  simp only [hiByte, BitVec.extractLsb'_toNat, Nat.shiftRight_eq_div_pow]
  omega

/-! Operands. -/

@[simp] theorem State.reg_setReg (s : State) (r : Reg8) (v : Byte) : (s.setReg r v).reg r = v := by
  cases r <;> rfl

theorem State.reg_setReg_other (s : State) {r q : Reg8} (v : Byte) (h : q ≠ r) : (s.setReg r v).reg q = s.reg q := by
  cases r <;> cases q <;> first | rfl | exact absurd rfl h

@[simp] theorem State.reg_setFlags (s : State) (fl : Flags) (r : Reg8) : (s.setFlags fl).reg r = s.reg r := by
  cases r <;> rfl

@[simp] theorem State.pair_setPair (s : State) (p : Reg16) (v : Word) : (s.setPair p v).pair p = v := by
  cases p <;> first | rfl | exact mkWord_hiByte_loByte v

@[simp] theorem State.stk_setStk (s : State) (k : Stk16) (v : Word) : (s.setStk k v).stk k = v := by
  cases k <;> exact mkWord_hiByte_loByte v

@[simp] theorem State.index_setIndex (s : State) (x : Idx) (v : Word) : (s.setIndex x v).index x = v := by
  cases x <;> rfl

@[simp] theorem State.index_setFlags (s : State) (fl : Flags) (x : Idx) : (s.setFlags fl).index x = s.index x := by
  cases x <;> rfl

@[simp] theorem State.half_setHalf (s : State) (x : Idx) (h : Half) (v : Byte) : (s.setHalf x h v).half x h = v := by
  cases h <;> simp [State.half, State.setHalf]

theorem State.half_setHalf_other (s : State) (x : Idx) {h k : Half} (v : Byte) (hk : k ≠ h) :
    (s.setHalf x h v).half x k = s.half x k := by
  cases h <;> cases k <;> first | exact absurd rfl hk | simp [State.half, State.setHalf]

@[simp] theorem State.half_setFlags (s : State) (fl : Flags) (x : Idx) (h : Half) :
    (s.setFlags fl).half x h = s.half x h := by
  cases x <;> cases h <;> rfl

@[simp] theorem State.xreg_setXreg (s : State) (x : Idx) (r : XReg8) (v : Byte) : (s.setXreg x r v).xreg x r = v := by
  cases r <;> first | rfl | exact State.half_setHalf s x .high v | exact State.half_setHalf s x .low v

/-! The end of an effect: only the cost differs. -/

theorem done_eq (n : Nat) (s : State) : done n s = .next { s with cost := n } := rfl

@[simp] theorem State.reg_cost (s : State) (n : Nat) (r : Reg8) : { s with cost := n }.reg r = s.reg r := rfl
@[simp] theorem State.pair_cost (s : State) (n : Nat) (p : Reg16) : { s with cost := n }.pair p = s.pair p := by
  cases p <;> rfl
@[simp] theorem State.stk_cost (s : State) (n : Nat) (k : Stk16) : { s with cost := n }.stk k = s.stk k := by
  cases k <;> rfl
@[simp] theorem State.index_cost (s : State) (n : Nat) (x : Idx) : { s with cost := n }.index x = s.index x := by
  cases x <;> rfl
@[simp] theorem State.half_cost (s : State) (n : Nat) (x : Idx) (h : Half) :
    { s with cost := n }.half x h = s.half x h := by
  cases x <;> cases h <;> rfl
@[simp] theorem State.xreg_cost (s : State) (n : Nat) (x : Idx) (r : XReg8) :
    { s with cost := n }.xreg x r = s.xreg x r := by
  cases x <;> cases r <;> rfl
@[simp] theorem State.memRead_cost (s : State) (n : Nat) (a : Word) : { s with cost := n }.memRead a = s.memRead a := rfl

/-- Reading memory sees the bus only. -/
theorem State.memRead_congr {s t : State} (h : t.bus = s.bus) (a : Word) : t.memRead a = s.memRead a := by
  unfold State.memRead
  rw [h]

end Sys2Proof.Machine
end

