-- ==== Sys2Proof/Laws/PerInstr.lean ====
section
/-! SUPPORT. Statements about every instruction as syntax, one lemma for each constructor. Family `EncodedLength`: the
encoder writes as many bytes as the decoder fetches (30_encoding.md rule R102). -/

namespace Sys2Proof.Laws.EncodedLength

/-- The bytes of `i` are as many as its format and prefixes say. -/
def Statement (i : Instr) : Prop := (encode i).length = i.size

theorem nop (px : Pfx) : Statement (.nop px) := by cases px <;> rfl
theorem ldRpNN (px : Pfx) (rp : Reg16) (nn : Word) : Statement (.ldRpNN px rp nn) := by cases px <;> rfl
theorem ldBCA (px : Pfx) : Statement (.ldBCA px) := by cases px <;> rfl
theorem incRp (px : Pfx) (rp : Reg16) : Statement (.incRp px rp) := by cases px <;> rfl
theorem incR (px : Pfx) (r : Reg8) : Statement (.incR px r) := by cases px <;> rfl
theorem decR (px : Pfx) (r : Reg8) : Statement (.decR px r) := by cases px <;> rfl
theorem ldRN (px : Pfx) (r : Reg8) (n : Byte) : Statement (.ldRN px r n) := by cases px <;> rfl
theorem rlca (px : Pfx) : Statement (.rlca px) := by cases px <;> rfl
theorem exAF (px : Pfx) : Statement (.exAF px) := by cases px <;> rfl
theorem addHLRp (rp : Reg16) : Statement (.addHLRp rp) := rfl
theorem ldABC (px : Pfx) : Statement (.ldABC px) := by cases px <;> rfl
theorem decRp (px : Pfx) (rp : Reg16) : Statement (.decRp px rp) := by cases px <;> rfl
theorem rrca (px : Pfx) : Statement (.rrca px) := by cases px <;> rfl
theorem djnz (px : Pfx) (e : Byte) : Statement (.djnz px e) := by cases px <;> rfl
theorem ldDEA (px : Pfx) : Statement (.ldDEA px) := by cases px <;> rfl
theorem rla (px : Pfx) : Statement (.rla px) := by cases px <;> rfl
theorem jr (px : Pfx) (e : Byte) : Statement (.jr px e) := by cases px <;> rfl
theorem ldADE (px : Pfx) : Statement (.ldADE px) := by cases px <;> rfl
theorem rra (px : Pfx) : Statement (.rra px) := by cases px <;> rfl
theorem jrCC (px : Pfx) (cc : Cond) (e : Byte) : Statement (.jrCC px cc e) := by cases px <;> rfl
theorem ldMNNHL (nn : Word) : Statement (.ldMNNHL nn) := rfl
theorem daa (px : Pfx) : Statement (.daa px) := by cases px <;> rfl
theorem ldHLMNN (nn : Word) : Statement (.ldHLMNN nn) := rfl
theorem cpl (px : Pfx) : Statement (.cpl px) := by cases px <;> rfl
theorem ldMNNA (px : Pfx) (nn : Word) : Statement (.ldMNNA px nn) := by cases px <;> rfl
theorem incMHL : Statement .incMHL := rfl
theorem decMHL : Statement .decMHL := rfl
theorem ldMHLN (n : Byte) : Statement (.ldMHLN n) := rfl
theorem scf (px : Pfx) : Statement (.scf px) := by cases px <;> rfl
theorem ldAMNN (px : Pfx) (nn : Word) : Statement (.ldAMNN px nn) := by cases px <;> rfl
theorem ccf (px : Pfx) : Statement (.ccf px) := by cases px <;> rfl
theorem ldRR (px : Pfx) (dst : Reg8) (src : Reg8) : Statement (.ldRR px dst src) := by cases px <;> rfl
theorem ldRMHL (r : Reg8) : Statement (.ldRMHL r) := rfl
theorem ldMHLR (r : Reg8) : Statement (.ldMHLR r) := rfl
theorem halt (px : Pfx) : Statement (.halt px) := by cases px <;> rfl
theorem addR (px : Pfx) (r : Reg8) : Statement (.addR px r) := by cases px <;> rfl
theorem addMHL : Statement .addMHL := rfl
theorem adcR (px : Pfx) (r : Reg8) : Statement (.adcR px r) := by cases px <;> rfl
theorem adcMHL : Statement .adcMHL := rfl
theorem subR (px : Pfx) (r : Reg8) : Statement (.subR px r) := by cases px <;> rfl
theorem subMHL : Statement .subMHL := rfl
theorem sbcR (px : Pfx) (r : Reg8) : Statement (.sbcR px r) := by cases px <;> rfl
theorem sbcMHL : Statement .sbcMHL := rfl
theorem andR (px : Pfx) (r : Reg8) : Statement (.andR px r) := by cases px <;> rfl
theorem andMHL : Statement .andMHL := rfl
theorem xorR (px : Pfx) (r : Reg8) : Statement (.xorR px r) := by cases px <;> rfl
theorem xorMHL : Statement .xorMHL := rfl
theorem orR (px : Pfx) (r : Reg8) : Statement (.orR px r) := by cases px <;> rfl
theorem orMHL : Statement .orMHL := rfl
theorem cpR (px : Pfx) (r : Reg8) : Statement (.cpR px r) := by cases px <;> rfl
theorem cpMHL : Statement .cpMHL := rfl
theorem retCC (px : Pfx) (cc : Cond) : Statement (.retCC px cc) := by cases px <;> rfl
theorem popRp2 (px : Pfx) (q : Stk16) : Statement (.popRp2 px q) := by cases px <;> rfl
theorem jpCC (px : Pfx) (cc : Cond) (nn : Word) : Statement (.jpCC px cc nn) := by cases px <;> rfl
theorem jp (px : Pfx) (nn : Word) : Statement (.jp px nn) := by cases px <;> rfl
theorem callCC (px : Pfx) (cc : Cond) (nn : Word) : Statement (.callCC px cc nn) := by cases px <;> rfl
theorem pushRp2 (px : Pfx) (q : Stk16) : Statement (.pushRp2 px q) := by cases px <;> rfl
theorem addN (px : Pfx) (n : Byte) : Statement (.addN px n) := by cases px <;> rfl
theorem adcN (px : Pfx) (n : Byte) : Statement (.adcN px n) := by cases px <;> rfl
theorem subN (px : Pfx) (n : Byte) : Statement (.subN px n) := by cases px <;> rfl
theorem sbcN (px : Pfx) (n : Byte) : Statement (.sbcN px n) := by cases px <;> rfl
theorem andN (px : Pfx) (n : Byte) : Statement (.andN px n) := by cases px <;> rfl
theorem xorN (px : Pfx) (n : Byte) : Statement (.xorN px n) := by cases px <;> rfl
theorem orN (px : Pfx) (n : Byte) : Statement (.orN px n) := by cases px <;> rfl
theorem cpN (px : Pfx) (n : Byte) : Statement (.cpN px n) := by cases px <;> rfl
theorem rst (px : Pfx) (y : BitVec 3) : Statement (.rst px y) := by cases px <;> rfl
theorem ret (px : Pfx) : Statement (.ret px) := by cases px <;> rfl
theorem call (px : Pfx) (nn : Word) : Statement (.call px nn) := by cases px <;> rfl
theorem outNA (px : Pfx) (n : Byte) : Statement (.outNA px n) := by cases px <;> rfl
theorem exx (px : Pfx) : Statement (.exx px) := by cases px <;> rfl
theorem inAN (px : Pfx) (n : Byte) : Statement (.inAN px n) := by cases px <;> rfl
theorem exSPHL : Statement .exSPHL := rfl
theorem jpHL : Statement .jpHL := rfl
theorem exDEHL (px : Pfx) : Statement (.exDEHL px) := by cases px <;> rfl
theorem di (px : Pfx) : Statement (.di px) := by cases px <;> rfl
theorem ldSPHL : Statement .ldSPHL := rfl
theorem ei (px : Pfx) : Statement (.ei px) := by cases px <;> rfl
theorem rlcR (r : Reg8) : Statement (.rlcR r) := rfl
theorem rlcMHL : Statement .rlcMHL := rfl
theorem rrcR (r : Reg8) : Statement (.rrcR r) := rfl
theorem rrcMHL : Statement .rrcMHL := rfl
theorem rlR (r : Reg8) : Statement (.rlR r) := rfl
theorem rlMHL : Statement .rlMHL := rfl
theorem rrR (r : Reg8) : Statement (.rrR r) := rfl
theorem rrMHL : Statement .rrMHL := rfl
theorem slaR (r : Reg8) : Statement (.slaR r) := rfl
theorem slaMHL : Statement .slaMHL := rfl
theorem sraR (r : Reg8) : Statement (.sraR r) := rfl
theorem sraMHL : Statement .sraMHL := rfl
theorem sllR (r : Reg8) : Statement (.sllR r) := rfl
theorem sllMHL : Statement .sllMHL := rfl
theorem srlR (r : Reg8) : Statement (.srlR r) := rfl
theorem srlMHL : Statement .srlMHL := rfl
theorem bitR (b : BitVec 3) (r : Reg8) : Statement (.bitR b r) := rfl
theorem bitMHL (b : BitVec 3) : Statement (.bitMHL b) := rfl
theorem resR (b : BitVec 3) (r : Reg8) : Statement (.resR b r) := rfl
theorem resMHL (b : BitVec 3) : Statement (.resMHL b) := rfl
theorem setR (b : BitVec 3) (r : Reg8) : Statement (.setR b r) := rfl
theorem setMHL (b : BitVec 3) : Statement (.setMHL b) := rfl
theorem undefinedED (op : Byte) : Statement (.undefinedED op) := rfl
theorem inRC (r : Reg8) : Statement (.inRC r) := rfl
theorem outCR (r : Reg8) : Statement (.outCR r) := rfl
theorem sbcHLRp (rp : Reg16) : Statement (.sbcHLRp rp) := rfl
theorem ldMNNRp (rp : Reg16) (nn : Word) : Statement (.ldMNNRp rp nn) := rfl
theorem neg : Statement .neg := rfl
theorem retn : Statement .retn := rfl
theorem im0 : Statement .im0 := rfl
theorem ldIA : Statement .ldIA := rfl
theorem adcHLRp (rp : Reg16) : Statement (.adcHLRp rp) := rfl
theorem ldRpMNN (rp : Reg16) (nn : Word) : Statement (.ldRpMNN rp nn) := rfl
theorem negDup (y : BitVec 3) : Statement (.negDup y) := rfl
theorem reti : Statement .reti := rfl
theorem im0Dup (y : BitVec 3) : Statement (.im0Dup y) := rfl
theorem ldRA : Statement .ldRA := rfl
theorem retnDup (y : BitVec 3) : Statement (.retnDup y) := rfl
theorem im1 : Statement .im1 := rfl
theorem ldAI : Statement .ldAI := rfl
theorem im2 : Statement .im2 := rfl
theorem ldAR : Statement .ldAR := rfl
theorem rrd : Statement .rrd := rfl
theorem rld : Statement .rld := rfl
theorem inC : Statement .inC := rfl
theorem outC0 : Statement .outC0 := rfl
theorem im1Dup : Statement .im1Dup := rfl
theorem nopED (y : BitVec 3) : Statement (.nopED y) := rfl
theorem im2Dup : Statement .im2Dup := rfl
theorem ldi : Statement .ldi := rfl
theorem cpi : Statement .cpi := rfl
theorem ini : Statement .ini := rfl
theorem outi : Statement .outi := rfl
theorem ldd : Statement .ldd := rfl
theorem cpd : Statement .cpd := rfl
theorem ind : Statement .ind := rfl
theorem outd : Statement .outd := rfl
theorem ldir : Statement .ldir := rfl
theorem cpir : Statement .cpir := rfl
theorem inir : Statement .inir := rfl
theorem otir : Statement .otir := rfl
theorem lddr : Statement .lddr := rfl
theorem cpdr : Statement .cpdr := rfl
theorem indr : Statement .indr := rfl
theorem otdr : Statement .otdr := rfl
theorem addIXRp (rp : Reg16) : Statement (.addIXRp rp) := rfl
theorem ldIXNN (nn : Word) : Statement (.ldIXNN nn) := rfl
theorem ldMNNIX (nn : Word) : Statement (.ldMNNIX nn) := rfl
theorem incIX : Statement .incIX := rfl
theorem incIXHalf (h : Half) : Statement (.incIXHalf h) := rfl
theorem decIXHalf (h : Half) : Statement (.decIXHalf h) := rfl
theorem ldIXHalfN (h : Half) (n : Byte) : Statement (.ldIXHalfN h n) := rfl
theorem ldIXMNN (nn : Word) : Statement (.ldIXMNN nn) := rfl
theorem decIX : Statement .decIX := rfl
theorem incMIX (d : Byte) : Statement (.incMIX d) := rfl
theorem decMIX (d : Byte) : Statement (.decMIX d) := rfl
theorem ldMIXN (d : Byte) (n : Byte) : Statement (.ldMIXN d n) := rfl
theorem ldPP (dst : XReg8) (src : XReg8) : Statement (.ldPP dst src) := rfl
theorem ldRMIX (r : Reg8) (d : Byte) : Statement (.ldRMIX r d) := rfl
theorem ldMIXR (r : Reg8) (d : Byte) : Statement (.ldMIXR r d) := rfl
theorem addIXHalf (h : Half) : Statement (.addIXHalf h) := rfl
theorem addMIX (d : Byte) : Statement (.addMIX d) := rfl
theorem adcIXHalf (h : Half) : Statement (.adcIXHalf h) := rfl
theorem adcMIX (d : Byte) : Statement (.adcMIX d) := rfl
theorem subIXHalf (h : Half) : Statement (.subIXHalf h) := rfl
theorem subMIX (d : Byte) : Statement (.subMIX d) := rfl
theorem sbcIXHalf (h : Half) : Statement (.sbcIXHalf h) := rfl
theorem sbcMIX (d : Byte) : Statement (.sbcMIX d) := rfl
theorem andIXHalf (h : Half) : Statement (.andIXHalf h) := rfl
theorem andMIX (d : Byte) : Statement (.andMIX d) := rfl
theorem xorIXHalf (h : Half) : Statement (.xorIXHalf h) := rfl
theorem xorMIX (d : Byte) : Statement (.xorMIX d) := rfl
theorem orIXHalf (h : Half) : Statement (.orIXHalf h) := rfl
theorem orMIX (d : Byte) : Statement (.orMIX d) := rfl
theorem cpIXHalf (h : Half) : Statement (.cpIXHalf h) := rfl
theorem cpMIX (d : Byte) : Statement (.cpMIX d) := rfl
theorem prefixNop (first : Idx) (second : Idx) : Statement (.prefixNop first second) := rfl
theorem prefixBeforeED (first : Idx) : Statement (.prefixBeforeED first) := rfl
theorem popIX : Statement .popIX := rfl
theorem exSPIX : Statement .exSPIX := rfl
theorem pushIX : Statement .pushIX := rfl
theorem jpIX : Statement .jpIX := rfl
theorem ldSPIX : Statement .ldSPIX := rfl
theorem rotMIXR (rot : Rot) (d : Byte) (r : Reg8) : Statement (.rotMIXR rot d r) := rfl
theorem rlcMIX (d : Byte) : Statement (.rlcMIX d) := rfl
theorem rrcMIX (d : Byte) : Statement (.rrcMIX d) := rfl
theorem rlMIX (d : Byte) : Statement (.rlMIX d) := rfl
theorem rrMIX (d : Byte) : Statement (.rrMIX d) := rfl
theorem slaMIX (d : Byte) : Statement (.slaMIX d) := rfl
theorem sraMIX (d : Byte) : Statement (.sraMIX d) := rfl
theorem sllMIX (d : Byte) : Statement (.sllMIX d) := rfl
theorem srlMIX (d : Byte) : Statement (.srlMIX d) := rfl
theorem bitMIX (b : BitVec 3) (d : Byte) (z : BitVec 3) : Statement (.bitMIX b d z) := rfl
theorem resMIXR (b : BitVec 3) (d : Byte) (r : Reg8) : Statement (.resMIXR b d r) := rfl
theorem resMIX (b : BitVec 3) (d : Byte) : Statement (.resMIX b d) := rfl
theorem setMIXR (b : BitVec 3) (d : Byte) (r : Reg8) : Statement (.setMIXR b d r) := rfl
theorem setMIX (b : BitVec 3) (d : Byte) : Statement (.setMIX b d) := rfl
theorem addIYRp (rp : Reg16) : Statement (.addIYRp rp) := rfl
theorem ldIYNN (nn : Word) : Statement (.ldIYNN nn) := rfl
theorem ldMNNIY (nn : Word) : Statement (.ldMNNIY nn) := rfl
theorem incIY : Statement .incIY := rfl
theorem incIYHalf (h : Half) : Statement (.incIYHalf h) := rfl
theorem decIYHalf (h : Half) : Statement (.decIYHalf h) := rfl
theorem ldIYHalfN (h : Half) (n : Byte) : Statement (.ldIYHalfN h n) := rfl
theorem ldIYMNN (nn : Word) : Statement (.ldIYMNN nn) := rfl
theorem decIY : Statement .decIY := rfl
theorem incMIY (d : Byte) : Statement (.incMIY d) := rfl
theorem decMIY (d : Byte) : Statement (.decMIY d) := rfl
theorem ldMIYN (d : Byte) (n : Byte) : Statement (.ldMIYN d n) := rfl
theorem ldQQ (dst : XReg8) (src : XReg8) : Statement (.ldQQ dst src) := rfl
theorem ldRMIY (r : Reg8) (d : Byte) : Statement (.ldRMIY r d) := rfl
theorem ldMIYR (r : Reg8) (d : Byte) : Statement (.ldMIYR r d) := rfl
theorem addIYHalf (h : Half) : Statement (.addIYHalf h) := rfl
theorem addMIY (d : Byte) : Statement (.addMIY d) := rfl
theorem adcIYHalf (h : Half) : Statement (.adcIYHalf h) := rfl
theorem adcMIY (d : Byte) : Statement (.adcMIY d) := rfl
theorem subIYHalf (h : Half) : Statement (.subIYHalf h) := rfl
theorem subMIY (d : Byte) : Statement (.subMIY d) := rfl
theorem sbcIYHalf (h : Half) : Statement (.sbcIYHalf h) := rfl
theorem sbcMIY (d : Byte) : Statement (.sbcMIY d) := rfl
theorem andIYHalf (h : Half) : Statement (.andIYHalf h) := rfl
theorem andMIY (d : Byte) : Statement (.andMIY d) := rfl
theorem xorIYHalf (h : Half) : Statement (.xorIYHalf h) := rfl
theorem xorMIY (d : Byte) : Statement (.xorMIY d) := rfl
theorem orIYHalf (h : Half) : Statement (.orIYHalf h) := rfl
theorem orMIY (d : Byte) : Statement (.orMIY d) := rfl
theorem cpIYHalf (h : Half) : Statement (.cpIYHalf h) := rfl
theorem cpMIY (d : Byte) : Statement (.cpMIY d) := rfl
theorem popIY : Statement .popIY := rfl
theorem exSPIY : Statement .exSPIY := rfl
theorem pushIY : Statement .pushIY := rfl
theorem jpIY : Statement .jpIY := rfl
theorem ldSPIY : Statement .ldSPIY := rfl
theorem rotMIYR (rot : Rot) (d : Byte) (r : Reg8) : Statement (.rotMIYR rot d r) := rfl
theorem rlcMIY (d : Byte) : Statement (.rlcMIY d) := rfl
theorem rrcMIY (d : Byte) : Statement (.rrcMIY d) := rfl
theorem rlMIY (d : Byte) : Statement (.rlMIY d) := rfl
theorem rrMIY (d : Byte) : Statement (.rrMIY d) := rfl
theorem slaMIY (d : Byte) : Statement (.slaMIY d) := rfl
theorem sraMIY (d : Byte) : Statement (.sraMIY d) := rfl
theorem sllMIY (d : Byte) : Statement (.sllMIY d) := rfl
theorem srlMIY (d : Byte) : Statement (.srlMIY d) := rfl
theorem bitMIY (b : BitVec 3) (d : Byte) (z : BitVec 3) : Statement (.bitMIY b d z) := rfl
theorem resMIYR (b : BitVec 3) (d : Byte) (r : Reg8) : Statement (.resMIYR b d r) := rfl
theorem resMIY (b : BitVec 3) (d : Byte) : Statement (.resMIY b d) := rfl
theorem setMIYR (b : BitVec 3) (d : Byte) (r : Reg8) : Statement (.setMIYR b d r) := rfl
theorem setMIY (b : BitVec 3) (d : Byte) : Statement (.setMIY b d) := rfl

end Sys2Proof.Laws.EncodedLength
end

