-- ==== Sys2Proof/Tests/Slice0.lean ====
section
/-! SUPPORT. The model's own tests. Well-formedness: a term for each condition that it refuses. Decoding: words written
out from the encodings of spec/30_encoding.md and of the instruction rules. Steps: one step each, the expected values from
spec/95_test_vectors.md sections 2.1 to 2.12, where the instruction stands at 0xC000 in system RAM. Witnesses: for every
statement with hypotheses a state and operands that meet them. -/

namespace Sys2Proof.Machine

/-! Helpers. -/

/-- F replaced. -/
def State.setF (s : State) (f : Byte) : State := { s with main := { s.main with f := f } }

end Sys2Proof.Machine

namespace Sys2Proof.Tests

open Sys2Proof Sys2Proof.Machine

/-- Whether the outcome is a next state with the property. -/
def after (r : Result State) (p : State → Bool) : Bool :=
  match r with
  | .next t => p t
  | .fault _ => false
  | .refused _ => false

/-- The state of spec/95_test_vectors.md section 0: PC at 0xC000, everything else as at reset. -/
def start : State := { State.reset with pc := 0xC000#16 }

/-- Bytes written to memory from an address on. -/
def store (s : State) (a : Word) : List Byte → State
  | [] => s
  | v :: vs => store (s.memWrite a v) (a + 1#16) vs

/-- The instruction's bytes at 0xC000. -/
def run (code : List Byte) (s : State) : State := store s 0xC000#16 code

/-- A VDP that requests the frame interrupt. -/
def ringing : Vdp := { Vdp.reset with framePending := true, reg := Vdp.reset.reg.set 1 0x20#8 }

/-! Well-formedness: each condition refuses a term (30_encoding.md rules R105, R107, R112, R116, R158, 45 rule R315). -/

theorem test_wf_accepts : (Instr.ldRN .dd .a 5#8).wf = true ∧ (Instr.jrCC .none .c 0#8).wf = true := by decide
theorem test_wf_prefix_register : (Instr.incR .dd .h).wf = false ∧ (Instr.ldRN .fd .l 5#8).wf = false := by decide
theorem test_wf_prefix_registers : (Instr.ldRR .dd .a .l).wf = false ∧ (Instr.ldRR .fd .h .a).wf = false := by decide
theorem test_wf_prefix_pair : (Instr.ldRpNN .dd .hl 0#16).wf = false ∧ (Instr.decRp .fd .hl).wf = false := by decide
theorem test_wf_prefix_stack : (Instr.pushRp2 .dd .hl).wf = false ∧ (Instr.popRp2 .fd .hl).wf = false := by decide
theorem test_wf_jr_condition : (Instr.jrCC .none .po 0#8).wf = false := by decide
theorem test_wf_undefinedED : (Instr.undefinedED 0x44#8).wf = false ∧ (Instr.undefinedED 0xB0#8).wf = false := by decide
theorem test_wf_negDup : (Instr.negDup 0#3).wf = false := by decide
theorem test_wf_im0Dup : (Instr.im0Dup 2#3).wf = false := by decide
theorem test_wf_retnDup : (Instr.retnDup 1#3).wf = false := by decide
theorem test_wf_nopED : (Instr.nopED 0#3).wf = false := by decide
theorem test_wf_index_halves : (Instr.ldPP .b .c).wf = false ∧ (Instr.ldQQ .a .a).wf = false := by decide

/-! Decoding: words written out bit by bit from the spec's encodings, the first byte in bits 7 to 0. -/

theorem test_decode_ld8 : decodeTableWord 8 0x41 = some (.ldRR .none .b .c) ∧        -- 0b01 000 001
    decodeTableWord 16 0x5A36 = some (.ldMHLN 0x5A#8) ∧                                -- 0b00 110 110, n
    decodeTableWord 24 0xC10032 = some (.ldMNNA .none 0xC100#16) := by decide            -- 0b00 110 010, low, high
theorem test_decode_ld_index : decodeTableWord 24 0x8071DD = some (.ldMIXR .c 0x80#8) ∧ -- DD 0b01 110 001 d
    decodeTableWord 24 0x1226FD = some (.ldIYHalfN .high 0x12#8) ∧                     -- FD 0b00 100 110 n
    decodeTableWord 16 0x68FD = some (.ldQQ .xl .b) := by decide                       -- FD 0b01 101 000
theorem test_decode_ld16 : decodeTableWord 24 0x123401 = some (.ldRpNN .none .bc 0x1234#16) ∧ -- 0b00 00 0 001
    decodeTableWord 32 0xC1005BED = some (.ldRpMNN .de 0xC100#16) ∧                    -- ED 0b01 01 1 011
    decodeTableWord 8 0xF5 = some (.pushRp2 .none .af) := by decide                    -- 0b11 11 0 101
theorem test_decode_alu : decodeTableWord 8 0x99 = some (.sbcR .none .c) ∧             -- 0b10 011 001
    decodeTableWord 16 0x01EE = some (.xorN .none 0x01#8) ∧                            -- 0b11 101 110
    decodeTableWord 24 0xFFBEDD = some (.cpMIX 0xFF#8) ∧                               -- DD 0b10 111 110 d
    decodeTableWord 8 0x2D = some (.decR .none .l) := by decide                        -- 0b00 101 101
theorem test_decode_alu16 : decodeTableWord 8 0x29 = some (.addHLRp .hl) ∧             -- 0b00 10 1 001
    decodeTableWord 16 0x29DD = some (.addIXRp .hl) ∧                                  -- DD 0b00 10 1 001
    decodeTableWord 16 0x72ED = some (.sbcHLRp .sp) := by decide                       -- ED 0b01 11 0 010
theorem test_decode_rotate : decodeTableWord 16 0x30CB = some (.sllR .b) ∧             -- CB 0b00 110 000
    decodeTableWord 32 0x2CFFCBFD = some (.rotMIYR .sra 0xFF#8 .h) ∧                   -- FD CB d 0b00 101 100
    decodeTableWord 16 0x6FED = some .rld := by decide                                 -- ED 0b01 101 111
theorem test_decode_bit : decodeTableWord 16 0x6CCB = some (.bitR 5#3 .h) ∧            -- CB 0b01 101 100
    decodeTableWord 32 0x4005CBDD = some (.bitMIX 0#3 0x05#8 0#3) ∧                    -- DD CB d 0b01 000 000
    decodeTableWord 32 0xC400CBDD = some (.setMIXR 0#3 0x00#8 .h) := by decide         -- DD CB d 0b11 000 100
theorem test_decode_jump : decodeTableWord 24 0x1234FA = some (.jpCC .none .m 0x1234#16) ∧ -- 0b11 111 010
    decodeTableWord 16 0xFE10 = some (.djnz .none 0xFE#8) ∧                            -- 0b00 010 000 e
    decodeTableWord 8 0xFF = some (.rst .none 7#3) ∧                                   -- 0b11 111 111
    decodeTableWord 16 0x75ED = some (.retnDup 6#3) := by decide                       -- ED 0b01 110 101
theorem test_decode_block : decodeTableWord 16 0xB9ED = some .cpdr ∧                   -- ED 0b101 1 1 0 01
    decodeTableWord 16 0xA3ED = some .outi := by decide                                -- ED 0b101 0 0 0 11
theorem test_decode_io : decodeTableWord 16 0xDCDB = some (.inAN .none 0xDC#8) ∧       -- 0b11 011 011 n
    decodeTableWord 16 0x79ED = some (.outCR .a) ∧                                     -- ED 0b01 111 001
    decodeTableWord 16 0x70ED = some .inC := by decide                                 -- ED 0b01 110 000
theorem test_decode_control : decodeTableWord 8 0x76 = some (.halt .none) ∧            -- 0b01 110 110
    decodeTableWord 16 0x5EED = some .im2 ∧                                            -- ED 0b01 011 110
    decodeTableWord 16 0xFFED = some (.undefinedED 0xFF#8) ∧
    decodeTableWord 16 0xEDFD = some (.prefixBeforeED .iy) ∧
    decodeTableWord 16 0xC8DD = some (.retCC .dd .z) := by decide                      -- DD 0b11 001 000
theorem test_withFetchWord :
    after (step (State.reset.withFetchWord 16 0x053E)) (fun t => t.main.a == 0x05#8 && t.pc == 0x0002#16) = true := by
  decide

/-! Steps (spec/95_test_vectors.md sections 2.1 to 2.11). -/

theorem test_LD_B_C :
    after (step (run [0x41#8] ((start.setBC 0x0012#16).setF 0xFF#8)))
      (fun t => t.main.b == 0x12#8 && t.main.f == 0xFF#8 && t.pc == 0xC001#16 && t.cost == 4) = true := by
  decide

theorem test_LD_MHL_N :
    after (step (run [0x36#8, 0x5A#8] (start.setHL 0xC100#16)))
      (fun t => t.memRead 0xC100#16 == 0x5A#8 && t.pc == 0xC002#16 && t.cost == 10) = true := by
  decide

theorem test_LD_H_MHL :
    after (step (run [0x66#8] ((start.setHL 0xC100#16).memWrite 0xC100#16 0x77#8)))
      (fun t => t.main.hl == 0x7700#16 && t.cost == 7) = true := by
  decide

theorem test_LD_MNN_A_rom :
    after (step (run [0x32#8, 0x00#8, 0x10#8] (start.setReg .a 0x44#8)))
      (fun t => t.memRead 0x1000#16 == 0x00#8 && t.pc == 0xC003#16 && t.cost == 13) = true := by
  decide

theorem test_LD_MNN_A_mirror :
    after (step (run [0x32#8, 0x00#8, 0xE1#8] (start.setReg .a 0x45#8)))
      (fun t => t.memRead 0xC100#16 == 0x45#8 && t.memRead 0xE100#16 == 0x45#8 && t.cost == 13) = true := by
  decide

theorem test_LD_B_MIX :
    after (step (run [0xDD#8, 0x46#8, 0x05#8] ({ start with ix := 0xC0FB#16 }.memWrite 0xC100#16 0x21#8)))
      (fun t => t.main.b == 0x21#8 && t.pc == 0xC003#16 && t.cost == 19) = true := by
  decide

theorem test_LD_MIY_N :
    after (step (run [0xFD#8, 0x36#8, 0xFF#8, 0x9A#8] ({ start with iy := 0xC100#16 })))
      (fun t => t.memRead 0xC0FF#16 == 0x9A#8 && t.pc == 0xC004#16 && t.cost == 19) = true := by
  decide

theorem test_LD_A_MIX_negative :
    after (step (run [0xDD#8, 0x7E#8, 0x80#8] ({ start with ix := 0xC180#16 }.memWrite 0xC100#16 0x6D#8)))
      (fun t => t.main.a == 0x6D#8 && t.cost == 19) = true := by
  decide

theorem test_LD_H_MIX :
    after (step (run [0xDD#8, 0x66#8, 0x00#8] (({ start with ix := 0xC100#16 }.setHL 0x1111#16).memWrite 0xC100#16 0xAB#8)))
      (fun t => t.main.hl == 0xAB11#16 && t.ix == 0xC100#16 && t.cost == 19) = true := by
  decide

theorem test_LD_IXH_N :
    after (step (run [0xDD#8, 0x26#8, 0x12#8] ({ start with ix := 0xAAAA#16 }.setHL 0x5555#16)))
      (fun t => t.ix == 0x12AA#16 && t.main.hl == 0x5555#16 && t.cost == 11) = true := by
  decide

theorem test_LD_IXL_IXH :
    after (step (run [0xDD#8, 0x6C#8] ({ start with ix := 0x12AB#16 }.setHL 0x5566#16)))
      (fun t => t.ix == 0x1212#16 && t.main.hl == 0x5566#16 && t.cost == 8) = true := by
  decide

theorem test_LD_A_I :
    after (step (run [0xED#8, 0x57#8] ({ { start with i := 0x80#8 } with iff2 := true }.setF 0x01#8)))
      (fun t => t.main.a == 0x80#8 && t.main.f == 0x85#8 && t.cost == 9) = true := by
  decide

theorem test_LD_A_R :
    after (step (run [0xED#8, 0x5F#8] ({ { start with r := 0x7F#8 } with iff2 := true }.setF 0x00#8)))
      (fun t => t.main.a == 0x7F#8 && t.main.f == 0x2C#8 && t.r == 0x00#8 && t.cost == 9) = true := by
  decide

theorem test_LD_R_A :
    after (step (run [0xED#8, 0x4F#8] (start.setReg .a 0xFF#8)))
      (fun t => t.r == 0x80#8 && t.cost == 9) = true := by
  decide

theorem test_LD_I_A :
    after (step (run [0xED#8, 0x47#8] ((start.setReg .a 0x9C#8).setF 0x00#8)))
      (fun t => t.i == 0x9C#8 && t.main.f == 0x00#8 && t.cost == 9) = true := by
  decide

theorem test_LD_IX_NN :
    after (step (run [0xDD#8, 0x21#8, 0xCD#8, 0xAB#8] (start.setHL 0x1111#16)))
      (fun t => t.ix == 0xABCD#16 && t.main.hl == 0x1111#16 && t.pc == 0xC004#16 && t.cost == 14) = true := by
  decide

theorem test_LD_MNN_HL_wraps :
    after (step (run [0x22#8, 0xFF#8, 0xFF#8] (start.setHL 0x0705#16)))
      (fun t => t.memRead 0xFFFF#16 == 0x05#8 && t.memRead 0x0000#16 == 0x00#8 && t.cost == 16) = true := by
  decide

theorem test_LD_DE_MNN :
    after (step (run [0xED#8, 0x5B#8, 0x00#8, 0xC1#8] ((start.memWrite 0xC100#16 0x0D#8).memWrite 0xC101#16 0xF0#8)))
      (fun t => t.main.de == 0xF00D#16 && t.pc == 0xC004#16 && t.cost == 20) = true := by
  decide

theorem test_LD_MNN_SP :
    after (step (run [0xED#8, 0x73#8, 0x00#8, 0xC1#8] ({ start with sp := 0xDFF0#16 })))
      (fun t => t.memRead 0xC100#16 == 0xF0#8 && t.memRead 0xC101#16 == 0xDF#8 && t.cost == 20) = true := by
  decide

theorem test_LD_SP_HL :
    after (step (run [0xF9#8] (start.setHL 0xD000#16)))
      (fun t => t.sp == 0xD000#16 && t.cost == 6) = true := by
  decide

theorem test_PUSH_AF :
    after (step (run [0xF5#8] (({ start with sp := 0xDFF0#16 }.setReg .a 0x12#8).setF 0xFF#8)))
      (fun t => t.sp == 0xDFEE#16 && t.memRead 0xDFEE#16 == 0xFF#8 && t.memRead 0xDFEF#16 == 0x12#8 &&
        t.cost == 11) = true := by
  decide

theorem test_POP_AF :
    after (step (run [0xF1#8] (({ start with sp := 0xC100#16 }.memWrite 0xC100#16 0xD7#8).memWrite 0xC101#16 0x9A#8)))
      (fun t => t.main.a == 0x9A#8 && t.main.f == 0xD7#8 && t.sp == 0xC102#16 && t.cost == 10) = true := by
  decide

theorem test_PUSH_IX :
    after (step (run [0xDD#8, 0xE5#8] ({ { start with sp := 0xDFF0#16 } with ix := 0xCAFE#16 })))
      (fun t => t.sp == 0xDFEE#16 && t.memRead 0xDFEE#16 == 0xFE#8 && t.memRead 0xDFEF#16 == 0xCA#8 &&
        t.cost == 15) = true := by
  decide

theorem test_POP_IY :
    after (step (run [0xFD#8, 0xE1#8] (({ start with sp := 0xC100#16 }.memWrite 0xC100#16 0x34#8).memWrite 0xC101#16 0x12#8)))
      (fun t => t.iy == 0x1234#16 && t.sp == 0xC102#16 && t.cost == 14) = true := by
  decide

theorem test_PUSH_BC_wraps :
    after (step (run [0xC5#8] ({ start with sp := 0x0001#16 }.setBC 0x0305#16)))
      (fun t => t.sp == 0xFFFF#16 && t.memRead 0x0000#16 == 0x00#8 && t.memRead 0xFFFF#16 == 0x05#8 &&
        t.cost == 11) = true := by
  decide

theorem test_EX_DE_HL :
    after (step (run [0xEB#8] ((start.setDE 0x1111#16).setHL 0x2222#16)))
      (fun t => t.main.de == 0x2222#16 && t.main.hl == 0x1111#16 && t.cost == 4) = true := by
  decide

theorem test_EX_MSP_IX :
    after (step (run [0xDD#8, 0xE3#8] ((({ { start with sp := 0xC100#16 } with ix := 0x1234#16 }.setHL 0x9999#16).memWrite 0xC100#16 0x78#8).memWrite 0xC101#16 0x56#8)))
      (fun t => t.ix == 0x5678#16 && t.memRead 0xC100#16 == 0x34#8 && t.memRead 0xC101#16 == 0x12#8 &&
        t.main.hl == 0x9999#16 && t.cost == 23) = true := by
  decide

theorem test_ADD_half_carry_overflow :
    after (step (run [0x80#8] (((start.setReg .a 0x7F#8).setBC 0x0100#16).setF 0x00#8)))
      (fun t => t.main.a == 0x80#8 && t.main.f == 0x94#8 && t.cost == 4) = true := by
  decide

theorem test_SUB_borrow_overflow :
    after (step (run [0x90#8] (((start.setReg .a 0x80#8).setBC 0x0100#16).setF 0x00#8)))
      (fun t => t.main.a == 0x7F#8 && t.main.f == 0x3E#8 && t.cost == 4) = true := by
  decide

theorem test_ADC_N :
    after (step (run [0xCE#8, 0xFF#8] ((start.setReg .a 0xFF#8).setF 0x01#8)))
      (fun t => t.main.a == 0xFF#8 && t.main.f == 0xB9#8 && t.cost == 7) = true := by
  decide

theorem test_SBC_MHL :
    after (step (run [0x9E#8] ((((start.setReg .a 0x80#8).setHL 0xC100#16).setF 0x01#8).memWrite 0xC100#16 0x7F#8)))
      (fun t => t.main.a == 0x00#8 && t.main.f == 0x56#8 && t.cost == 7) = true := by
  decide

theorem test_AND_B :
    after (step (run [0xA0#8] (((start.setReg .a 0xF0#8).setBC 0x3C00#16).setF 0x01#8)))
      (fun t => t.main.a == 0x30#8 && t.main.f == 0x34#8 && t.cost == 4) = true := by
  decide

theorem test_XOR_N :
    after (step (run [0xEE#8, 0xFF#8] ((start.setReg .a 0x55#8).setF 0x01#8)))
      (fun t => t.main.a == 0xAA#8 && t.main.f == 0xAC#8 && t.cost == 7) = true := by
  decide

theorem test_OR_N :
    after (step (run [0xF6#8, 0x28#8] ((start.setReg .a 0x80#8).setF 0x00#8)))
      (fun t => t.main.a == 0xA8#8 && t.main.f == 0xA8#8 && t.cost == 7) = true := by
  decide

theorem test_CP_B :
    after (step (run [0xB8#8] (((start.setReg .a 0x40#8).setBC 0x2800#16).setF 0x00#8)))
      (fun t => t.main.a == 0x40#8 && t.main.f == 0x3A#8 && t.cost == 4) = true := by
  decide

theorem test_ADD_IXH :
    after (step (run [0xDD#8, 0x84#8] (({ (start.setReg .a 0x01#8) with ix := 0x0F00#16 }.setHL 0x7000#16).setF 0x00#8)))
      (fun t => t.main.a == 0x10#8 && t.main.f == 0x10#8 && t.cost == 8) = true := by
  decide

theorem test_SUB_MIX :
    after (step (run [0xDD#8, 0x96#8, 0x02#8] (({ (start.setReg .a 0x10#8) with ix := 0xC0FE#16 }.setF 0x00#8).memWrite 0xC100#16 0x01#8)))
      (fun t => t.main.a == 0x0F#8 && t.main.f == 0x1A#8 && t.pc == 0xC003#16 && t.cost == 19) = true := by
  decide

theorem test_INC_B :
    after (step (run [0x04#8] ((start.setBC 0x7F00#16).setF 0x01#8)))
      (fun t => t.main.b == 0x80#8 && t.main.f == 0x95#8 && t.cost == 4) = true := by
  decide

theorem test_DEC_MHL :
    after (step (run [0x35#8] (((start.setHL 0xC100#16).setF 0x00#8).memWrite 0xC100#16 0x10#8)))
      (fun t => t.memRead 0xC100#16 == 0x0F#8 && t.main.f == 0x1A#8 && t.cost == 11) = true := by
  decide

theorem test_INC_IXH :
    after (step (run [0xDD#8, 0x24#8] (({ start with ix := 0xFF12#16 }.setHL 0x0102#16).setF 0x00#8)))
      (fun t => t.ix == 0x0012#16 && t.main.hl == 0x0102#16 && t.main.f == 0x50#8 && t.cost == 8) = true := by
  decide

theorem test_DEC_MIY :
    after (step (run [0xFD#8, 0x35#8, 0x00#8] (({ start with iy := 0xC100#16 }.setF 0x01#8).memWrite 0xC100#16 0x01#8)))
      (fun t => t.memRead 0xC100#16 == 0x00#8 && t.main.f == 0x43#8 && t.cost == 23) = true := by
  decide

theorem test_DAA_add :
    after (step (run [0x27#8] ((start.setReg .a 0x9A#8).setF 0x80#8)))
      (fun t => t.main.a == 0x00#8 && t.main.f == 0x55#8 && t.cost == 4) = true := by
  decide

theorem test_DAA_subtract :
    after (step (run [0x27#8] ((start.setReg .a 0xFF#8).setF 0x93#8)))
      (fun t => t.main.a == 0x99#8 && t.main.f == 0x8F#8 && t.cost == 4) = true := by
  decide

theorem test_CPL :
    after (step (run [0x2F#8] ((start.setReg .a 0x5A#8).setF 0x00#8)))
      (fun t => t.main.a == 0xA5#8 && t.main.f == 0x32#8 && t.cost == 4) = true := by
  decide

theorem test_NEG :
    after (step (run [0xED#8, 0x44#8] ((start.setReg .a 0x80#8).setF 0x00#8)))
      (fun t => t.main.a == 0x80#8 && t.main.f == 0x87#8 && t.cost == 8) = true := by
  decide

theorem test_SCF :
    after (step (run [0x37#8] ((start.setReg .a 0x28#8).setF 0xD6#8)))
      (fun t => t.main.a == 0x28#8 && t.main.f == 0xED#8 && t.cost == 4) = true := by
  decide

theorem test_CCF :
    after (step (run [0x3F#8] ((start.setReg .a 0x00#8).setF 0x01#8)))
      (fun t => t.main.a == 0x00#8 && t.main.f == 0x10#8 && t.cost == 4) = true := by
  decide

theorem test_ADD_HL_BC :
    after (step (run [0x09#8] (((start.setHL 0x0FFF#16).setBC 0x0001#16).setF 0xC4#8)))
      (fun t => t.main.hl == 0x1000#16 && t.main.f == 0xD4#8 && t.cost == 11) = true := by
  decide

theorem test_ADD_IX_IX :
    after (step (run [0xDD#8, 0x29#8] (({ start with ix := 0x1400#16 }.setHL 0x1111#16).setF 0x00#8)))
      (fun t => t.ix == 0x2800#16 && t.main.hl == 0x1111#16 && t.main.f == 0x28#8 && t.cost == 15) = true := by
  decide

theorem test_ADC_HL_BC :
    after (step (run [0xED#8, 0x4A#8] (((start.setHL 0x7FFF#16).setBC 0x0000#16).setF 0x01#8)))
      (fun t => t.main.hl == 0x8000#16 && t.main.f == 0x94#8 && t.cost == 15) = true := by
  decide

theorem test_SBC_HL_BC :
    after (step (run [0xED#8, 0x42#8] (((start.setHL 0x0000#16).setBC 0x0000#16).setF 0x01#8)))
      (fun t => t.main.hl == 0xFFFF#16 && t.main.f == 0xBB#8 && t.cost == 15) = true := by
  decide

theorem test_RLA :
    after (step (run [0x17#8] ((start.setReg .a 0x76#8).setF 0x01#8)))
      (fun t => t.main.a == 0xED#8 && t.main.f == 0x28#8 && t.cost == 4) = true := by
  decide

theorem test_RRA :
    after (step (run [0x1F#8] ((start.setReg .a 0xE1#8).setF 0x00#8)))
      (fun t => t.main.a == 0x70#8 && t.main.f == 0x21#8 && t.cost == 4) = true := by
  decide

theorem test_RLC_B :
    after (step (run [0xCB#8, 0x00#8] ((start.setReg .b 0x88#8).setF 0x00#8)))
      (fun t => t.main.b == 0x11#8 && t.main.f == 0x05#8 && t.cost == 8) = true := by
  decide

theorem test_SLL_B :
    after (step (run [0xCB#8, 0x30#8] ((start.setReg .b 0x80#8).setF 0x00#8)))
      (fun t => t.main.b == 0x01#8 && t.main.f == 0x01#8 && t.cost == 8) = true := by
  decide

theorem test_SRA_B :
    after (step (run [0xCB#8, 0x28#8] ((start.setReg .b 0xB8#8).setF 0x00#8)))
      (fun t => t.main.b == 0xDC#8 && t.main.f == 0x88#8 && t.cost == 8) = true := by
  decide

theorem test_RLC_MIX_B :
    after (step (run [0xDD#8, 0xCB#8, 0x01#8, 0x00#8] ((({ start with ix := 0xC100#16 }.setReg .b 0x00#8).setF 0x00#8).memWrite 0xC101#16 0x81#8)))
      (fun t => t.memRead 0xC101#16 == 0x03#8 && t.main.b == 0x03#8 && t.main.f == 0x05#8 &&
        t.cost == 23) = true := by
  decide

theorem test_SRA_MIY_H :
    after (step (run [0xFD#8, 0xCB#8, 0xFF#8, 0x2C#8] ((({ start with iy := 0xC100#16 }.setHL 0x0000#16).setF 0x00#8).memWrite 0xC0FF#16 0x81#8)))
      (fun t => t.memRead 0xC0FF#16 == 0xC0#8 && t.main.h == 0xC0#8 && t.iy == 0xC100#16 && t.main.f == 0x85#8 &&
        t.cost == 23) = true := by
  decide

theorem test_RLD :
    after (step (run [0xED#8, 0x6F#8] ((((start.setReg .a 0x7A#8).setHL 0xC100#16).setF 0x01#8).memWrite 0xC100#16 0x31#8)))
      (fun t => t.main.a == 0x73#8 && t.memRead 0xC100#16 == 0x1A#8 && t.main.f == 0x21#8 &&
        t.cost == 18) = true := by
  decide

theorem test_RRD :
    after (step (run [0xED#8, 0x67#8] ((((start.setReg .a 0x84#8).setHL 0xC100#16).setF 0x00#8).memWrite 0xC100#16 0x20#8)))
      (fun t => t.main.a == 0x80#8 && t.memRead 0xC100#16 == 0x42#8 && t.main.f == 0x80#8 &&
        t.cost == 18) = true := by
  decide

theorem test_BIT_7_A :
    after (step (run [0xCB#8, 0x7F#8] ((start.setReg .a 0x80#8).setF 0x00#8)))
      (fun t => t.main.f == 0x90#8 && t.cost == 8) = true := by
  decide

theorem test_BIT_7_MIX :
    after (step (run [0xDD#8, 0xCB#8, 0x05#8, 0x7E#8] (({ start with ix := 0xE8FB#16 }.setF 0x01#8).memWrite 0xE900#16 0x80#8)))
      (fun t => t.main.f == 0xB9#8 && t.cost == 20) = true := by
  decide

theorem test_BIT_0_MHL :
    after (step (run [0xCB#8, 0x46#8] (((start.setHL 0xC100#16).setF 0x00#8).memWrite 0xC100#16 0xFE#8)))
      (fun t => t.cost == 12) = true := by
  decide

theorem test_RES_7_A :
    after (step (run [0xCB#8, 0xBF#8] ((start.setReg .a 0xFF#8).setF 0x5A#8)))
      (fun t => t.main.a == 0x7F#8 && t.main.f == 0x5A#8 && t.cost == 8) = true := by
  decide

theorem test_SET_0_MIX_H :
    after (step (run [0xDD#8, 0xCB#8, 0x00#8, 0xC4#8] (({ start with ix := 0xC100#16 }.setHL 0x0000#16).memWrite 0xC100#16 0x00#8)))
      (fun t => t.memRead 0xC100#16 == 0x01#8 && t.main.h == 0x01#8 && t.ix == 0xC100#16 && t.cost == 23) = true := by
  decide

theorem test_JP_Z :
    after (step (run [0xCA#8, 0x34#8, 0x12#8] (start.setF 0x40#8)))
      (fun t => t.pc == 0x1234#16 && t.cost == 10) = true := by
  decide

theorem test_JR_backward :
    after (step (run [0x18#8, 0x80#8] start)) (fun t => t.pc == 0xBF82#16 && t.cost == 12) = true := by
  decide

theorem test_JR_NZ_not_taken :
    after (step (run [0x20#8, 0x10#8] (start.setF 0x40#8)))
      (fun t => t.pc == 0xC002#16 && t.cost == 7) = true := by
  decide

theorem test_JP_IX :
    after (step (run [0xDD#8, 0xE9#8] ({ start with ix := 0x4321#16 }.setHL 0x1111#16)))
      (fun t => t.pc == 0x4321#16 && t.cost == 8) = true := by
  decide

theorem test_DJNZ_to_zero :
    after (step (run [0x10#8, 0xFE#8] (start.setBC 0x0100#16)))
      (fun t => t.main.b == 0x00#8 && t.pc == 0xC002#16 && t.cost == 8) = true := by
  decide

theorem test_DJNZ_from_zero :
    after (step (run [0x10#8, 0xFE#8] (start.setBC 0x0000#16)))
      (fun t => t.main.b == 0xFF#8 && t.pc == 0xC000#16 && t.cost == 13) = true := by
  decide

theorem test_CALL_over_itself :
    after (step (run [0xCD#8, 0x03#8, 0xC0#8] ({ start with sp := 0xC003#16 })))
      (fun t => t.pc == 0xC003#16 && t.sp == 0xC001#16 && t.memRead 0xC001#16 == 0x03#8 &&
        t.memRead 0xC002#16 == 0xC0#8 && t.cost == 17) = true := by
  decide

theorem test_CALL_NZ_not_taken :
    after (step (run [0xC4#8, 0x00#8, 0xC1#8] ({ start with sp := 0xDFF0#16 }.setF 0x40#8)))
      (fun t => t.pc == 0xC003#16 && t.sp == 0xDFF0#16 && t.cost == 10) = true := by
  decide

theorem test_RET_Z :
    after (step (run [0xC8#8] ((({ start with sp := 0xC100#16 }.setF 0x40#8).memWrite 0xC100#16 0x34#8).memWrite 0xC101#16 0x12#8)))
      (fun t => t.pc == 0x1234#16 && t.sp == 0xC102#16 && t.cost == 11) = true := by
  decide

theorem test_RETN :
    after (step (run [0xED#8, 0x45#8] (({ { { start with sp := 0xC100#16 } with iff1 := true } with iff2 := false }.memWrite 0xC100#16 0x34#8).memWrite 0xC101#16 0x12#8)))
      (fun t => t.pc == 0x1234#16 && t.sp == 0xC102#16 && t.iff1 == false && t.iff2 == false &&
        t.cost == 14) = true := by
  decide

theorem test_RETI :
    after (step (run [0xED#8, 0x4D#8] (({ { { start with sp := 0xC100#16 } with iff1 := false } with iff2 := true }.memWrite 0xC100#16 0x34#8).memWrite 0xC101#16 0x12#8)))
      (fun t => t.pc == 0x1234#16 && t.sp == 0xC102#16 && t.iff1 == true && t.iff2 == true &&
        t.cost == 14) = true := by
  decide

theorem test_RST_38 :
    after (step (run [0xFF#8] ({ start with sp := 0xDFF0#16 })))
      (fun t => t.pc == 0x0038#16 && t.sp == 0xDFEE#16 && t.memRead 0xDFEE#16 == 0x01#8 &&
        t.memRead 0xDFEF#16 == 0xC0#8 && t.cost == 11) = true := by
  decide

theorem test_LDI :
    after (step (run [0xED#8, 0xA0#8] ((((((start.setHL 0xC100#16).setDE 0xC200#16).setBC 0x0002#16).setReg .a 0x00#8).setF 0xFF#8).memWrite 0xC100#16 0xA5#8)))
      (fun t => t.memRead 0xC200#16 == 0xA5#8 && t.main.hl == 0xC101#16 && t.main.de == 0xC201#16 &&
        t.main.bc == 0x0001#16 && t.main.f == 0xC5#8 && t.cost == 16) = true := by
  decide

theorem test_LDIR_repeats :
    after (step (run [0xED#8, 0xB0#8] (((start.setHL 0xC100#16).setDE 0xC200#16).setBC 0x0000#16)))
      (fun t => t.main.bc == 0xFFFF#16 && t.pc == 0xC000#16 && t.cost == 21) = true := by
  decide

theorem test_CPI :
    after (step (run [0xED#8, 0xA1#8] (((((start.setReg .a 0x3B#8).setHL 0xC100#16).setBC 0x0002#16).setF 0x01#8).memWrite 0xC100#16 0x3B#8)))
      (fun t => t.main.hl == 0xC101#16 && t.main.bc == 0x0001#16 && t.main.f == 0x47#8 && t.main.a == 0x3B#8 &&
        t.cost == 16) = true := by
  decide

theorem test_CPD :
    after (step (run [0xED#8, 0xA9#8] (((((start.setReg .a 0x00#8).setHL 0xC100#16).setBC 0x0005#16).setF 0x00#8).memWrite 0xC100#16 0x01#8)))
      (fun t => t.main.hl == 0xC0FF#16 && t.main.bc == 0x0004#16 && t.main.f == 0xBE#8 && t.cost == 16) = true := by
  decide

theorem test_CPIR_repeats :
    after (step (run [0xED#8, 0xB1#8] (((((((start.setReg .a 0x33#8).setHL 0xC100#16).setBC 0x0005#16).setF 0x00#8).memWrite 0xC100#16 0x11#8).memWrite 0xC101#16 0x22#8).memWrite 0xC102#16 0x33#8)))
      (fun t => t.main.hl == 0xC101#16 && t.main.bc == 0x0004#16 && t.pc == 0xC000#16 && t.main.f == 0x26#8 &&
        t.cost == 21) = true := by
  decide

theorem test_INI :
    after (step (run [0xED#8, 0xA2#8] (((start.setHL 0xC100#16).setBC 0x01DC#16).setButtons .first 0x5A#8)))
      (fun t => t.memRead 0xC100#16 == 0x5A#8 && t.main.hl == 0xC101#16 && t.main.bc == 0x00DC#16 &&
        t.cost == 16) = true := by
  decide

theorem test_OUTD :
    after (step (run [0xED#8, 0xAB#8] (((start.setHL 0xC100#16).setBC 0x01BE#16).memWrite 0xC100#16 0x77#8)))
      (fun t => t.main.hl == 0xC0FF#16 && t.main.bc == 0x00BE#16 && t.cost == 16) = true := by
  decide

theorem test_IN_A_N :
    after (step (run [0xDB#8, 0xDC#8] (((start.setReg .a 0x00#8).setF 0xFF#8).setButtons .first 0x3F#8)))
      (fun t => t.main.a == 0x3F#8 && t.main.f == 0xFF#8 && t.cost == 11) = true := by
  decide

theorem test_IN_A_C :
    after (step (run [0xED#8, 0x78#8] ((((start.setReg .a 0x00#8).setBC 0x00DC#16).setF 0x00#8).setButtons .first 0xA8#8)))
      (fun t => t.main.a == 0xA8#8 && t.main.f == 0xA8#8 && t.cost == 12) = true := by
  decide

theorem test_IN_C :
    after (step (run [0xED#8, 0x70#8] ((((start.setBC 0x00DC#16).setHL 0x1234#16).setF 0x01#8).setButtons .first 0xFF#8)))
      (fun t => t.main.f == 0xAD#8 && t.main.bc == 0x00DC#16 && t.main.hl == 0x1234#16 && t.cost == 12) = true := by
  decide

theorem test_NOP :
    after (step (run [0x00#8] ({ start with r := 0x7F#8 }.setF 0xA5#8)))
      (fun t => t.pc == 0xC001#16 && t.r == 0x00#8 && t.main.f == 0xA5#8 && t.cost == 4) = true := by
  decide

theorem test_HALT :
    after (step (run [0x76#8] start)) (fun t => t.pc == 0xC001#16 && t.halted == true && t.r == 0x01#8 &&
        t.cost == 4) = true := by
  decide

theorem test_DI :
    after (step (run [0xF3#8] ({ { start with iff1 := true } with iff2 := true })))
      (fun t => t.iff1 == false && t.iff2 == false && t.eiPending == false && t.cost == 4) = true := by
  decide

theorem test_EI :
    after (step (run [0xFB#8] start)) (fun t => t.iff1 == false && t.iff2 == false && t.eiPending == true &&
        t.cost == 4) = true := by
  decide

theorem test_IM_2 :
    after (step (run [0xED#8, 0x5E#8] ({ start with im := .im0 })))
      (fun t => t.im == .im2 && t.cost == 8) = true := by
  decide

theorem test_IM_0_duplicate :
    after (step (run [0xED#8, 0x6E#8] ({ start with im := .im2 })))
      (fun t => t.im == .im0 && t.cost == 8) = true := by
  decide

theorem test_undefined_ED :
    after (step (run [0xED#8, 0x00#8] ({ { start with iff1 := true } with iff2 := true })))
      (fun t => t.iff1 == true && t.iff2 == true && t.eiPending == false && t.pc == 0xC002#16 && t.r == 0x01#8 &&
        t.cost == 8) = true := by
  decide

theorem test_NOP_ED :
    after (step (run [0xED#8, 0x77#8] (start.setF 0x5A#8)))
      (fun t => t.pc == 0xC002#16 && t.main.f == 0x5A#8 && t.cost == 8) = true := by
  decide

theorem test_undefined_ED_source_noni :
    after (step (run [0xED#8, 0x00#8, 0x00#8] ({ { { start with iff1 := true } with iff2 := true } with cfg := { Config.ntsc with edUndefined := .sourceNoni } })))
      (fun t => t.iff1 == false && t.iff2 == false && t.eiPending == true && t.pc == 0xC002#16 &&
        t.cost == 8) = true := by
  decide

theorem test_prefix_no_op :
    after (step (run [0xDD#8, 0xDD#8, 0x21#8, 0x34#8, 0x12#8] ({ start with ix := 0x0000#16 })))
      (fun t => t.ix == 0x0000#16 && t.pc == 0xC001#16 && t.r == 0x01#8 && t.cost == 4) = true := by
  decide

theorem test_prefixed_LD_A_N :
    after (step (run [0xDD#8, 0x3E#8, 0x05#8] (start.setReg .a 0x00#8)))
      (fun t => t.main.a == 0x05#8 && t.pc == 0xC003#16 && t.r == 0x01#8 && t.cost == 11) = true := by
  decide

theorem test_prefixed_HALT :
    after (step (run [0xFD#8, 0x76#8] start)) (fun t => t.pc == 0xC002#16 && t.halted == true &&
        t.cost == 8) = true := by
  decide

theorem test_LD_IXH_IXH :
    after (step (run [0xDD#8, 0x64#8] ({ start with ix := 0x1234#16 }.setHL 0x5678#16)))
      (fun t => t.ix == 0x1234#16 && t.main.hl == 0x5678#16 && t.pc == 0xC002#16 && t.cost == 8) = true := by
  decide

/-- The flags of `BIT 0,(HL)` on 0xFE with F = 0, whatever the free byte (section 2.6: F&D7=54). -/
theorem test_BIT_0_MHL_flags : ∀ free : Byte,
    (bitFlags (Flags.ofByte 0x00#8) 0#3 0xFE#8 free).toByte &&& 0xD7#8 = 0x54#8 := by
  decide

/-- F.Z of a block I/O unit is that of B, whatever the free byte (section 2.8: F&40). -/
theorem test_block_io_zero : ∀ free : Byte, (blockIoFlags free 0x00#8).toByte &&& 0x40#8 = 0x40#8 ∧
    (blockIoFlags free 0x01#8).toByte &&& 0x40#8 = 0x00#8 := by
  decide

/-! Interrupts (section 2.11). -/

/-- PC at 0xC005, SP at 0xDFF0, both enables set. -/
def enabled : State := { State.reset with pc := 0xC005#16, sp := 0xDFF0#16, iff1 := true, iff2 := true }

theorem test_int_mode_1 :
    after (step { enabled with im := .im1, vdp := ringing, r := 0x10#8 })
      (fun t => t.pc == 0x0038#16 && t.sp == 0xDFEE#16 && t.memRead 0xDFEE#16 == 0x05#8 && t.memRead 0xDFEF#16 == 0xC0#8 &&
        !t.iff1 && !t.iff2 && t.r == 0x10#8 && t.cost == 13) = true := by
  decide

theorem test_int_mode_2 :
    after (step { ((enabled.memWrite 0xC1FF#16 0x34#8).memWrite 0xC200#16 0x12#8) with
        im := .im2, i := 0xC1#8, vdp := ringing })
      (fun t => t.pc == 0x1234#16 && t.sp == 0xDFEE#16 && !t.iff1 && !t.iff2 && t.cost == 19) = true := by
  decide

theorem test_int_masked :
    after (step { (run [0x00#8] start) with im := .im1, vdp := ringing })
      (fun t => t.pc == 0xC001#16 && t.r == 0x01#8 && t.cost == 4) = true := by
  decide

theorem test_int_halted :
    after (step { enabled with pc := 0xC001#16, halted := true, im := .im1, vdp := ringing })
      (fun t => !t.halted && t.pc == 0x0038#16 && t.memRead 0xDFEE#16 == 0x01#8) = true := by
  decide

theorem test_nmi :
    after (step { enabled with nmiReq := true })
      (fun t => t.pc == 0x0066#16 && t.sp == 0xDFEE#16 && t.memRead 0xDFEE#16 == 0x05#8 && !t.iff1 && t.iff2 &&
        !t.nmiReq && t.cost == 11) = true := by
  decide

theorem test_nmi_drops_pending_enable :
    after (step { State.reset with eiPending := true, nmiReq := true })
      (fun t => t.pc == 0x0066#16 && !t.eiPending && !t.iff1 && !t.iff2) = true := by
  decide

/-- The enable lands after the `DI` that follows `EI`. -/
theorem test_di_after_ei :
    after (step { (run [0xF3#8] start) with eiPending := true })
      (fun t => t.iff1 && t.iff2 && !t.eiPending) = true := by
  decide

/-! The bus (section 2.12): an image whose byte `a` is `a / 1024`, at the bytes the section reads. -/

/-- The ROM bytes that section 2.12 reads, with PAGE_COUNT 4. -/
def banked : State :=
  { State.reset with bus := { Bus.reset with
      pageCount := 4
      rom := [(0x400, 0x01#8), (0x3FFF, 0x0F#8), (0x4000, 0x10#8), (0x8000, 0x20#8), (0xBFFF, 0x2F#8),
        (0xC400, 0x31#8), (0xFFFF, 0x3F#8)] } }

theorem test_bus_frames :
    [0x0000#16, 0x03FF#16, 0x0400#16, 0x3FFF#16, 0x4000#16, 0x8000#16, 0xBFFF#16].map banked.memRead =
      [0x00#8, 0x00#8, 0x01#8, 0x0F#8, 0x10#8, 0x20#8, 0x2F#8] := by
  decide

theorem test_bus_page_register :
    [0x0400#16, 0x03FF#16, 0x3FFF#16, 0xFFFD#16].map (banked.memWrite 0xFFFD#16 0x07#8).memRead =
      [0x31#8, 0x00#8, 0x3F#8, 0x07#8] := by
  decide

theorem test_bus_cartridge_ram :
    let s := (banked.memWrite 0xFFFC#16 0x08#8).memWrite 0x8000#16 0x5A#8
    let t := (s.memWrite 0xFFFC#16 0x0C#8).memWrite 0x8000#16 0xA5#8
    (s.memRead 0x8000#16, t.memRead 0x8000#16, (t.memWrite 0xFFFC#16 0x08#8).memRead 0x8000#16,
      (t.memWrite 0xFFFC#16 0x00#8).memRead 0x8000#16) = (0x5A#8, 0xA5#8, 0x5A#8, 0x20#8) := by
  decide

theorem test_bus_control_has_no_mirror :
    let s := (banked.memWrite 0xDFFC#16 0x56#8).memWrite 0xFFFC#16 0x80#8
    (s.memRead 0xDFFC#16, s.memRead 0xFFFC#16) = (0x56#8, 0x80#8) := by
  decide

/-! The VDP (section 2.13) and the PSG (sections 2.14, 2.15). -/

theorem test_vdp_register_write :
    let v := (Vdp.reset.controlWrite 0x20#8).controlWrite 0x81#8
    (v.addr, v.code, v.second, v.reg[1]) = (0x120#14, 2#2, false, 0x20#8) := by
  decide

theorem test_vdp_read_buffer :
    let v := { Vdp.reset with vram := [(0, 0xAA#8), (1, 0xBB#8)] }
    let w := (v.controlWrite 0x00#8).controlWrite 0x00#8
    (w.readBuf, w.addr, w.dataRead.1, w.dataRead.2.readBuf, w.dataRead.2.addr) =
      (0xAA#8, 1#14, 0xAA#8, 0xBB#8, 2#14) := by
  decide

theorem test_vdp_palette_write :
    let v := ((Vdp.reset.controlWrite 0x00#8).controlWrite 0xC0#8).dataWrite 0xFF#8
    (v.addr, v.code, v.cram[0], v.vramAt 0) = (1#14, 3#2, 0x3F#6, 0x00#8) := by
  decide

theorem test_vdp_address_wraps :
    ((Vdp.reset.controlWrite 0xFF#8).controlWrite 0x3F#8).addr = 0#14 := by
  decide

theorem test_vdp_line_end :
    let v := ({ Vdp.reset with hc := 224 }.update Config.ntsc 4).1
    (v.hc, v.line, v.linePending, v.framePending) = (0, 1, true, false) := by
  decide

theorem test_vdp_frame_interrupt :
    let v := ({ Vdp.reset with hc := 224, line := 192, reg := Vdp.reset.reg.set 1 0x20#8 }.update Config.ntsc 4).1
    (v.line, v.framePending, v.intLine) = (193, true, true) := by
  decide

theorem test_vcounter_jump :
    (vCount Config.ntsc 0xDA, vCount Config.ntsc 219, vCount Config.ntsc 261, vCount Config.pal 243) =
      (0xDA#8, 0xD5#8, 0xFF#8, 0xBA#8) := by
  decide

theorem test_psg_two_byte_tone :
    ((Psg.reset.write 0x85#8).write 0x12#8).tone[0] = 0x125#10 := by
  decide

theorem test_psg_noise_reset :
    let p := { Psg.reset with lfsr := 0x0001#15 }.write 0xE4#8
    (p.noise, p.lfsr, p.lch) = (4#3, 0x4000#15, 3#2) := by
  decide

theorem test_psg_tone_step :
    let p := { Psg.reset with tone := Vector.ofFn fun i => if i.val = 0 then 3#10 else 0#10 }.sampleStep Config.ntsc
    (p.ctr[0], p.pol[0], p.pol[1]) = (2, Polarity.minus, Polarity.plus) := by
  decide

/-- 95_test_vectors.md: with `VOL = [0, 15, 15, 15]` and `POL[0] = -1` the sample is `-PSG_VOLUME_TABLE[0]`; with all four
volumes 15 it is 0. -/
theorem test_psg_mix :
    { Psg.reset with vol := #v[0x0#4, 0xF#4, 0xF#4, 0xF#4], pol := #v[.minus, .plus, .plus, .plus] }.mix Config.ntsc =
        Config.ntsc.psgVolumeTable[0].times (-1) ∧
      Psg.reset.mix Config.ntsc = Sample.zero := by
  decide

/-- Rounding to 3 bits: 17 * 2 is between 16 * 2 and 20 * 2; 15 is between 14 and 16; 12, 5 / 2 and 1 are kept. -/
theorem test_round : roundMagnitude 3 false 17 1 = (4, 3) ∧ roundMagnitude 3 true 17 1 = (5, 3) ∧
    roundMagnitude 3 false 15 0 = (7, 1) ∧ roundMagnitude 3 true 15 0 = (4, 2) ∧ roundMagnitude 3 true 12 0 = (6, 1) ∧
    roundMagnitude 3 true 5 (-1) = (5, -1) ∧ roundMagnitude 3 true 1 0 = (4, -2) := by
  decide

/-- Rule R507: every entry but the last is the 53-bit number nearest to `10 ^ (-i / 10) / 4`; compared by tenth powers,
half a unit to either side, as `10 ^ (-i) / 4 ^ 10`. -/
theorem test_recommended_volumes : ∀ i : Fin 15,
    let v := Config.recommendedVolumes.get i.castSucc
    let half := (2 ^ (1 - v.exponent).toNat) ^ 10
    (2 * v.significand - 1) ^ 10 * 10 ^ i.val * 4 ^ 10 < half ∧ half < (2 * v.significand + 1) ^ 10 * 10 ^ i.val * 4 ^ 10 := by
  decide

/-- Rule R450: FB has a pixel at every place before anything is rendered; the unlisted one of log 3. -/
theorem test_fb_unrendered : State.reset.vdp.pixel 0 255 = { red := 0#8, green := 0#8, blue := 0#8, alpha := 0#8 } := by
  decide

/-! Witnesses: the hypotheses of each statement, met together, each clause at the ends of its range. -/

theorem test_witness_DecodeOfEncode : (Instr.rotMIXR .rlc 0x01#8 .b).wf = true ∧ (Instr.ldRN .dd .a 0xFF#8).wf = true := by
  decide

/-- StepRunsDecoded: the bytes of a load at PC, no interrupt, and the load run. -/
theorem test_witness_StepRunsDecoded :
    let s := run [0x3E#8, 0x80#8] start
    s.nmiCond = false ∧ s.intCond = false ∧ s.halted = false ∧
      ([s.memRead s.pc, s.memRead (s.pc + 1#16), s.memRead (s.pc + 2#16), s.memRead (s.pc + 3#16)] =
        [0x3E#8, 0x80#8, 0x00#8, 0x00#8]) ∧
      after (exec (.ldRN .none .a 0x80#8) { s with eiPending := false, pc := s.pc + BitVec.ofNat 16 2 })
        (fun t => t.main.a == 0x80#8) = true := by
  decide

theorem test_witness_StepRunsDecoded_decode :
    decode [0x3E#8, 0x80#8, 0x00#8, 0x00#8] = .ok (.ldRN .none .a 0x80#8, [0x00#8, 0x00#8]) :=
  rfl

theorem test_witness_NmiAcceptance :
    (let s := { enabled with nmiReq := true }; s.nmiReq = true ∧ s.cfg.pauseSampleLine = none) ∧
      (let s := { enabled with nmiReq := true, cfg := { Config.ntsc with pauseSampleLine := some 0x00#8 } };
        s.nmiReq = true ∧ s.cfg.pauseSampleLine = some s.vCounter) := by
  decide

theorem test_witness_IntAcceptance :
    (let s := { enabled with vdp := ringing, im := .im2 };
      s.nmiCond = false ∧ s.iff1 = true ∧ s.vdp.intLine = true ∧ s.im = .im2) ∧
      (let s := { enabled with vdp := ringing };
        s.nmiCond = false ∧ s.iff1 = true ∧ s.vdp.intLine = true ∧ s.im ≠ .im2) := by
  decide

theorem test_witness_InterruptPriority :
    let s := { enabled with vdp := ringing, nmiReq := true };
    s.nmiCond = true ∧ s.intCond = true := by
  decide

theorem test_witness_HaltedIdle :
    let s := { start with halted := true };
    s.nmiCond = false ∧ s.intCond = false ∧ s.halted = true := by
  decide

/-- EiLatency, its four clauses: an instruction step with a pending enable, one that leaves the enable pending, an
acceptance. -/
theorem test_witness_EiLatency :
    (let s := { (run [0xFB#8] start) with eiPending := true };
      s.nmiCond = false ∧ s.intCond = false ∧ s.halted = false ∧ s.eiPending = true ∧
        after (step s) (fun t => t.eiPending) = true) ∧
      (let s := { enabled with nmiReq := true, eiPending := true };
        s.nmiCond = true ∧ after (step s) (fun t => !t.eiPending) = true) := by
  decide

theorem test_witness_RefreshCounter :
    (let s := { (run [0xED#8, 0x4F#8] start) with r := 0xFF#8 };
      s.nmiCond = false ∧ s.intCond = false ∧ s.halted = false ∧ s.fetch = .ldRA ∧
        after (step s) (fun t => t.r == 0x01#8) = true) ∧
      (let s := run [0xED#8, 0x5F#8] start; s.fetch = .ldAR ∧ s.fetch ≠ .ldRA) ∧
      after (step { start with halted := true }) (fun t => t.r == 0x00#8) = true := by
  decide

/-- ControlStateWriters: instructions that change what each clause names. -/
theorem test_witness_ControlStateWriters :
    after (exec .im2 start) (fun t => t.im != start.im) = true ∧
      after (exec .ldIA { start with i := 0x01#8 }) (fun t => t.i == 0x00#8) = true ∧
      after (exec .ldRA { start with r := 0x01#8 }) (fun t => t.r == 0x00#8) = true ∧
      after (exec (.halt .none) start) (fun t => t.halted) = true ∧
      after (exec (.ei .none) start) (fun t => t.eiPending) = true ∧
      after (exec (.di .none) enabled) (fun t => !t.iff1 && !t.iff2) = true ∧
      after (exec .reti { start with iff2 := true }) (fun t => t.iff1) = true := by
  decide

theorem test_witness_StepKeepsLegal : start.wf = true ∧ after (step start) (fun t => t.wf) = true := by
  decide

theorem test_witness_PsgInvisible : after (step start) (fun _ => true) = true := by
  decide

/-- Construction: no image, an image that is only a header, one page with a header, one byte too many. -/
theorem test_witness_Construction :
    ([] : List Byte).length % 16384 ≠ 512 ∧ (List.replicate 512 0x00#8).length % 16384 = 512 ∧
      (List.replicate 16896 0x00#8).length % 16384 = 512 ∧ (List.replicate 16384 0x00#8).length % 16384 = 0 ∧
      (List.replicate 16385 0x00#8).length % 16384 ≠ 0 := by
  simp only [List.length_replicate, List.length_nil]
  decide

/-- The ranges of MemoryReadMap and MemoryWriteMap at their ends. -/
theorem test_witness_MemoryMap :
    (0x03FF#16).toNat < 0x0400 ∧ 0x0400 ≤ (0x0400#16).toNat ∧ (0x3FFF#16).toNat < 0x4000 ∧ 0x4000 ≤ (0x4000#16).toNat ∧
      (0x7FFF#16).toNat < 0x8000 ∧ 0x8000 ≤ (0x8000#16).toNat ∧ (0xBFFF#16).toNat < 0xC000 ∧
      (banked.memWrite 0xFFFC#16 0x08#8).bus.ctrl.getLsbD 3 = true ∧ banked.bus.ctrl.getLsbD 3 = false ∧
      0xC000 ≤ (0xC000#16).toNat ∧ (0xDFFF#16).toNat < 0xE000 ∧ 0xE000 ≤ (0xE000#16).toNat ∧
      (0xFFFB#16).toNat < 0xFFFC := by
  decide

theorem test_witness_SystemRamMirror :
    0xC000 ≤ (0xC000#16).toNat ∧ (0xDFFB#16).toNat + 0x2000 < 0xFFFC ∧ ¬ (0xDFFC#16).toNat + 0x2000 < 0xFFFC ∧
      0xE000 ≤ (0xFFFB#16).toNat ∧ (0xFFFB#16).toNat < 0xFFFC ∧ 0xFFFC ≤ (0xFFFC#16).toNat ∧
      0xDFFC ≤ (0xDFFC#16).toNat ∧ (0xDFFF#16).toNat < 0xE000 := by
  decide

theorem test_witness_CartridgeRam :
    0x8000 ≤ (0x8000#16).toNat ∧ (0xBFFF#16).toNat < 0xC000 ∧
      (banked.memWrite 0xFFFC#16 0x0C#8).bus.ctrl.getLsbD 3 = true ∧ (0xF8#8).getLsbD 3 = true ∧
      (0x0C#8).getLsbD 2 = (banked.memWrite 0xFFFC#16 0x0C#8).bus.ctrl.getLsbD 2 ∧ banked.bus.ctrl.getLsbD 3 = false := by
  decide

/-- PortMap: each clause at the ends of its range. -/
theorem test_witness_PortMap :
    (0x3F#8).toNat < 64 ∧ 64 ≤ (0x40#8).toNat ∧ (0x7E#8).toNat < 128 ∧ (0x7E#8).toNat % 2 = 0 ∧ (0x7F#8).toNat % 2 = 1 ∧
      128 ≤ (0x80#8).toNat ∧ (0xBE#8).toNat < 192 ∧ (0xBE#8).toNat % 2 = 0 ∧ (0xBF#8).toNat % 2 = 1 ∧
      192 ≤ (0xC0#8).toNat ∧ (0xDE#8) ≠ 0xDC#8 ∧ (0xDE#8) ≠ 0xDD#8 := by
  decide

/-- VdpControlPort and InterruptLine: a first byte, and a second byte of each code; a register write that enables a
pending interrupt. -/
theorem test_witness_VdpControlPort :
    Vdp.reset.second = false ∧ (Vdp.reset.controlWrite 0xFF#8).second = true ∧ (0x3F#8).toNat / 64 = 0 ∧
      (0x40#8).toNat / 64 ≠ 0 ∧ (0x8A#8).toNat / 64 = 2 ∧ (0x8A#8).toNat % 16 = 10 ∧
      (let v := { Vdp.reset with framePending := true, linePending := true, second := true, addr := 0x30#14 };
        (0x81#8).toNat % 16 = 1 ∧ v.framePending = true ∧ v.addr.getLsbD 5 = true ∧
          (0x80#8).toNat % 16 = 0 ∧ v.linePending = true ∧ v.addr.getLsbD 4 = true) := by
  decide

theorem test_witness_VdpDataPort :
    { Vdp.reset with code := 3#2 }.code = 3#2 ∧ Vdp.reset.code ≠ 3#2 := by
  decide

/-- InterruptLine: the second byte of a register write to each of the two registers, with the flag pending. -/
theorem test_witness_InterruptLine :
    let v := { Vdp.reset with second := true, framePending := true, linePending := true, addr := 0x30#14 }
    v.second = true ∧ (0x81#8).toNat / 64 = 2 ∧ (0x81#8).toNat % 16 = 1 ∧ (0xB0#8).toNat / 64 = 2 ∧
      (0xB0#8).toNat % 16 = 0 ∧ v.addr.getLsbD 5 = true ∧ v.addr.getLsbD 4 = true ∧ v.intLine = false := by
  decide

theorem test_witness_VCounterSequence :
    Config.ntsc.wf = true ∧ 261 < Config.ntsc.linesPerFrame ∧ 0xDA ≤ Config.ntsc.vJumpFrom ∧
      Config.ntsc.vJumpFrom < 219 ∧ 261 + 1 = Config.ntsc.linesPerFrame := by
  decide

/-- VdpLineTiming: just below and at the end of a line; lines entered at the end of the active display and after it. -/
theorem test_witness_VdpLineTiming :
    0 < Config.ntsc.cyclesPerLine ∧ 224 + 3 < Config.ntsc.cyclesPerLine ∧ Config.ntsc.cyclesPerLine ≤ 224 + 4 ∧
      (Vdp.endOfLine Config.ntsc { Vdp.reset with line := 191 }).line ≤ Config.ntsc.activeHeight ∧
      Config.ntsc.activeHeight < (Vdp.endOfLine Config.ntsc { Vdp.reset with line := 192 }).line ∧
      (Vdp.endOfLine Config.ntsc { Vdp.reset with line := 261 }).line < Config.ntsc.activeHeight ∧
      Vdp.reset.lineCtr = 0#8 ∧ { Vdp.reset with lineCtr := 2#8 }.lineCtr ≠ 0#8 := by
  decide

/-- BackgroundColumns: the uncovered strip, and the last pixel of the last column that fits. -/
theorem test_witness_BackgroundColumns :
    6 < { Vdp.reset with reg := Vdp.reset.reg.set 8 0x07#8 }.reg[8].toNat % 8 ∧ 31 * 8 + 0 + 7 < 256 ∧
      30 * 8 + 7 + 7 < 256 ∧ { Vdp.reset with reg := Vdp.reset.reg.set 0 0xC0#8 }.reg[0].getLsbD 7 = true := by
  decide

/-- PixelChoice: the display disabled and enabled; a column without a sprite pixel and one with; without and with a tile
pixel. The sprite list ends at its second entry. -/
theorem test_witness_PixelChoice :
    let v := { Vdp.reset with reg := (Vdp.reset.reg.set 1 0x40#8).set 8 0x01#8, vram := [(1, 0xD0#8)] }
    Vdp.reset.reg[1].getLsbD 6 = false ∧ v.reg[1].getLsbD 6 = true ∧ (v.sprites 3).pixels.lookup 200 = none ∧
      v.tilePixel 3 0 = none ∧ (v.tilePixel 3 200).isSome = true := by
  decide

theorem test_witness_PixelChoice_sprite :
    (({ Vdp.reset with vram := [(0x01, 0xD0#8), (0x08, 0xFF#8), (0x80, 0x05#8)] } : Vdp).sprites 3).pixels.lookup 5 =
      some 1#4 := by
  decide

theorem test_witness_PsgWritePort :
    128 ≤ (0x80#8).toNat ∧ (0x7F#8).toNat < 128 ∧ (Psg.reset.write 0xE4#8).ltype = false ∧
      (Psg.reset.write 0xE4#8).lch = 3#2 ∧ (Psg.reset.write 0x90#8).ltype = true ∧ Psg.reset.tone[2]? = some 0#10 := by
  decide

/-- The sum of PsgNoiseAndMix: numbers of a 3-bit format, and their exponents in one unit. -/
theorem test_witness_PsgNoiseAndMix_sum :
    let c := { Config.ntsc with psgFloatBits := 3 }
    let x : Sample := { significand := 7, exponent := 0 }
    let y : Sample := { significand := -4, exponent := -2 }
    0 < c.psgFloatBits ∧ x.fits 3 = true ∧ y.fits 3 = true ∧ Sample.zero.fits 3 = true ∧
      (x.add c y) = { significand := 6, exponent := 0 } ∧ (-2 : Int) ≤ x.exponent ∧ -2 ≤ y.exponent := by
  decide

/-- PsgSampleClock and PsgNoiseAndMix: below and at a sample; a period below the minimum, at it, and a countdown that does
not underflow. -/
theorem test_witness_PsgSampleClock :
    0 < Config.ntsc.psgCyclesPerSample ∧ 0 + 15 < Config.ntsc.psgCyclesPerSample ∧
      Config.ntsc.psgCyclesPerSample ≤ 0 + 16 ∧ (1 : Int) < Config.ntsc.psgMinPeriod ∧
      (Config.ntsc.psgMinPeriod : Int) ≤ 2 ∧ Psg.reset.ctr[0] - Config.ntsc.psgDecrement ≤ 0 ∧
      (0 : Int) < 5 - Config.ntsc.psgDecrement ∧ Psg.reset.wr ≤ Psg.reset.out.length := by
  decide

/-- The statements about lists of instructions ask that the instruction is in the list: one of each, with its own effect
run. -/
theorem test_witness_lists :
    after (exec (.ldRR .none .a .b) start) (fun t => t.cost == 4) = true ∧
      after (exec (.ldMHLR .a) start) (fun t => t.cost == 7) = true ∧
      after (exec (.ldPP .xh .xl) start) (fun t => t.cost == 8) = true ∧
      after (exec .ldAI start) (fun t => t.cost == 9) = true ∧
      after (exec (.ldRpNN .none .sp 0xFFFF#16) start) (fun t => t.sp == 0xFFFF#16) = true ∧
      after (exec (.pushRp2 .none .af) start) (fun t => t.sp == 0xFFFE#16) = true ∧
      after (exec .exSPHL start) (fun t => t.cost == 19) = true ∧
      after (exec (.adcIYHalf .low) start) (fun t => t.cost == 8) = true ∧
      after (exec (.negDup 1#3) start) (fun t => t.cost == 8) = true ∧
      after (exec (.orN .none 0x01#8) start) (fun t => t.main.a == 0x01#8) = true ∧
      after (exec (.cpMIX 0x80#8) start) (fun t => t.cost == 19) = true ∧
      after (exec (.decMIY 0x7F#8) start) (fun t => t.cost == 23) = true ∧
      after (exec (.addIXRp .hl) start) (fun t => t.cost == 15) = true ∧
      after (exec (.rra .none) start) (fun t => t.cost == 4) = true ∧
      after (exec (.srlR .a) start) (fun t => t.cost == 8) = true ∧
      after (exec (.rotMIYR .sll 0x00#8 .l) start) (fun t => t.main.l == 0x01#8) = true ∧
      after (exec (.bitMIY 7#3 0x00#8 7#3) start) (fun t => t.cost == 20) = true ∧
      after (exec (.setMIXR 0#3 0x00#8 .a) start) (fun t => t.main.a == 0x01#8) = true ∧
      after (exec .rrd start) (fun t => t.cost == 18) = true := by
  decide

/-- The conditions of the jumps, the calls and the returns, taken and not taken; the last iterations of the block
instructions. -/
theorem test_witness_conditions :
    start.flags.holds .nz = true ∧ start.flags.holds .z = false ∧
      after (exec (.callCC .none .nz 0x0000#16) start) (fun t => t.cost == 17) = true ∧
      after (exec (.retCC .fd .z) start) (fun t => t.cost == 9) = true ∧
      after (exec (.djnz .none 0x7F#8) (start.setReg .b 0x01#8)) (fun t => t.main.b == 0x00#8 && t.cost == 8) = true ∧
      after (exec .lddr (start.setBC 0x0001#16)) (fun t => t.main.bc == 0x0000#16 && t.cost == 16) = true ∧
      after (exec .cpir (start.setBC 0x0002#16)) (fun t => t.main.bc == 0x0001#16 && t.cost == 16) = true ∧
      after (exec .otdr (start.setReg .b 0x01#8)) (fun t => t.main.b == 0x00#8 && t.cost == 16) = true ∧
      after (exec (.prefixNop .ix .iy) start) (fun t => t.pc == 0xBFFF#16) = true := by
  decide

end Sys2Proof.Tests
end

