-- ==== Sys2Proof/Proofs/SystemRam.lean ====
section
/-! System RAM, its mirror and the four cells that have none (20_memory.md rule R66): which addresses select one of its
cells, and what a read sees after a write. -/

namespace Sys2Proof.Machine

/-- The two addresses of a cell of system RAM; the last four cells have the first one only (rules R62, R66). -/
theorem Bus.locate_eq_sysRam_iff (b : Bus) (x : Word) (off : Nat) :
    b.locate x = .sysRam off ↔
      x.toNat = 0xC000 + off ∧ off < 0x2000 ∨ x.toNat = 0xE000 + off ∧ off < 0x1FFC := by
  simp only [Bus.locate]
  split_ifs <;> simp <;> omega

/-- Below 0xFFFC, 0x2000 up from an address of system RAM is another address of the same cell. -/
theorem Bus.locate_mirror (b : Bus) {a : Word} (h : 0xC000 ≤ a.toNat) (h' : a.toNat + 0x2000 < 0xFFFC) :
    b.locate (a + 0x2000#16) = b.locate a := by
  have low : b.locate a = .sysRam (a.toNat - 0xC000) := (b.locate_eq_sysRam_iff a _).2 (by omega)
  have high : b.locate (a + 0x2000#16) = .sysRam (a.toNat - 0xC000) :=
    (b.locate_eq_sysRam_iff _ _).2 (by rw [BitVec.toNat_add, BitVec.toNat_ofNat]; omega)
  rw [low, high]

/-- A cell at 0xDFFC to 0xDFFF has no second address. -/
theorem Bus.locate_ne_of_unmirrored (b : Bus) {a x : Word} (h : 0xDFFC ≤ a.toNat) (h' : a.toNat < 0xE000)
    (hx : x ≠ a) : b.locate x ≠ b.locate a := by
  have ha : b.locate a = .sysRam (a.toNat - 0xC000) := (b.locate_eq_sysRam_iff a _).2 (by omega)
  have hne : x.toNat ≠ a.toNat := fun e => hx (BitVec.eq_of_toNat_eq e)
  rw [ha, ne_eq, b.locate_eq_sysRam_iff]
  omega

/-- A control byte is no cell that an address below 0xFFFC selects. -/
theorem Bus.locate_ne_of_control (b : Bus) {a x : Word} (ha : 0xFFFC ≤ a.toNat) (hx : x.toNat < 0xFFFC) :
    b.locate x ≠ b.locate a := by
  intro e
  have hcontrol := congrArg Loc.isControl e
  simp only [Bus.locate_isControl, decide_eq_decide] at hcontrol
  omega

/-- What is written from 0xC000 up is read at every address there that selects the same cell. -/
theorem State.memRead_memWrite_of_locate_eq (s : State) {a x : Word} (v : Byte) (ha : 0xC000 ≤ a.toNat)
    (hx : 0xC000 ≤ x.toNat) (e : s.bus.locate x = s.bus.locate a) : (s.memWrite a v).memRead x = v := by
  have writable : s.bus.writable a = true := by simp [Bus.writable, ha]
  change (s.bus.write a v).load ((s.bus.write a v).locate x) = v
  rw [Bus.locate_fixed (.inr hx) s.bus, Bus.load_write, if_pos ⟨e, writable⟩]

/-- A write is not seen at an address that selects another cell, as long as it leaves that address where it was. -/
theorem State.memRead_memWrite_of_locate_ne (s : State) {a x : Word} (v : Byte)
    (keeps : (s.bus.write a v).locate x = s.bus.locate x) (ne : s.bus.locate x ≠ s.bus.locate a) :
    (s.memWrite a v).memRead x = s.memRead x := by
  change (s.bus.write a v).load ((s.bus.write a v).locate x) = s.bus.load (s.bus.locate x)
  rw [keeps, Bus.load_write, if_neg fun e => ne e.1]

/-- Settles O18: the mirror by the cell the two addresses share, the rest by cells that differ. -/
theorem systemRamMirror : Obligations.SystemRamMirror := by
  intro s a v ha
  refine ⟨?self, ?mirrorAbove, ?mirrorBelow, ?control, ?unmirrored⟩
  case self => exact s.memRead_memWrite_of_locate_eq v ha ha rfl
  case mirrorAbove =>
    intro h
    exact s.memRead_memWrite_of_locate_eq v ha (by bv_omega) (s.bus.locate_mirror ha h)
  case mirrorBelow =>
    intro hlo hhi
    have hx : 0xC000 ≤ (a - 0x2000#16).toNat := by bv_omega
    have e := s.bus.locate_mirror hx (by bv_omega)
    rw [BitVec.sub_add_cancel] at e
    exact s.memRead_memWrite_of_locate_eq v ha hx e.symm
  case control =>
    intro hctl x hx hx'
    exact s.memRead_memWrite_of_locate_ne v (Bus.locate_fixed (.inr hx) _ _) (s.bus.locate_ne_of_control hctl hx')
  case unmirrored =>
    intro hlo hhi x hx
    exact s.memRead_memWrite_of_locate_ne v (Bus.locate_write _ v (by omega) x)
      (s.bus.locate_ne_of_unmirrored hlo hhi hx)

end Sys2Proof.Machine
end

