-- ==== Sys2Proof/Proofs/PsgClock.lean ====
section
/-! The PSG's sample clock and its tone channels (60_exceptions.md rules R505, R506): the accumulator has no part in a
sample step, and each channel is moved by its own step only. -/

namespace Sys2Proof.Machine

/-! The accumulator: nothing in a sample step reads or writes it. -/

theorem Psg.toneStep_setAcc (c : Config) (p : Psg) (ch a : Nat) :
    Psg.toneStep c { p with acc := a } ch = { p.toneStep c ch with acc := a } := by
  unfold Psg.toneStep
  dsimp only
  split_ifs <;> rfl

theorem Psg.noiseStep_setAcc (c : Config) (p : Psg) (a : Nat) :
    Psg.noiseStep c { p with acc := a } = { p.noiseStep c with acc := a } := by
  unfold Psg.noiseStep
  dsimp only
  split <;> rfl

theorem Psg.sampleStep_setAcc (c : Config) (p : Psg) (a : Nat) :
    Psg.sampleStep c { p with acc := a } = { p.sampleStep c with acc := a } := by
  simp only [Psg.sampleStep, Psg.toneStep_setAcc, Psg.noiseStep_setAcc]
  rfl

/-- Time short of a sample only adds to ACC (rule R505). -/
theorem Psg.update_of_lt {c : Config} {t : Nat} {p : Psg} (h : p.acc + t < c.psgCyclesPerSample) :
    p.update c t = { p with acc := p.acc + t } := by
  have noneDue : p.samplesDue c t = 0 := by
    rw [Psg.samplesDue, if_neg (by omega), Nat.div_eq_of_lt h]
  rw [Psg.update, if_neg (by omega), noneDue, Psg.sampleSteps, Nat.mod_eq_of_lt h]

/-- Enough time makes one sample, and goes on with ACC less one period (rule R505). -/
theorem Psg.update_of_le {c : Config} {t : Nat} {p : Psg} (hc : 0 < c.psgCyclesPerSample)
    (h : c.psgCyclesPerSample ≤ p.acc + t) :
    p.update c t = Psg.update c 0 (Psg.sampleStep c { p with acc := p.acc + t - c.psgCyclesPerSample }) := by
  have due : (p.acc + t) / c.psgCyclesPerSample =
      (p.acc + t - c.psgCyclesPerSample) / c.psgCyclesPerSample + 1 := Nat.div_eq_sub_div hc h
  simp only [Psg.update, Psg.samplesDue, if_neg hc.ne', due, Nat.mod_eq_sub_mod h, Psg.sampleSteps,
    Psg.sampleStep_setAcc, Nat.add_zero]

/-! The tone channels. -/

/-- Two PSGs agree on channel `k` and on the tone registers. -/
structure Psg.SameChannel (k : Fin 4) (p q : Psg) : Prop where
  tone : p.tone = q.tone
  ctr : p.ctr.get k = q.ctr.get k
  pol : p.pol.get k = q.pol.get k

theorem Psg.SameChannel.trans {k : Fin 4} {p q r : Psg} (h : p.SameChannel k q) (h' : q.SameChannel k r) :
    p.SameChannel k r :=
  ⟨h.tone.trans h'.tone, h.ctr.trans h'.ctr, h.pol.trans h'.pol⟩

/-- A tone step leaves the other channels alone. -/
theorem Psg.toneStep_sameChannel (c : Config) (p : Psg) {ch : Nat} {k : Fin 4} (h : ch ≠ k) :
    (p.toneStep c ch).SameChannel k p := by
  unfold Psg.toneStep
  dsimp only
  split_ifs <;> constructor <;> simp [Vector.get_eq_getElem, Vector.getElem_setIfInBounds_ne, h]

/-- The noise step leaves the tone channels alone. -/
theorem Psg.noiseStep_sameChannel (c : Config) (p : Psg) {k : Fin 4} (h : 3 ≠ k.val) :
    (p.noiseStep c).SameChannel k p := by
  unfold Psg.noiseStep
  dsimp only
  split <;> constructor <;> simp [Vector.get_eq_getElem, Vector.getElem_set_ne, h]

/-- A sample step moves a tone channel by that channel's own step. -/
theorem Psg.sampleStep_sameChannel (c : Config) (p : Psg) (ch : Fin 3) :
    ∃ q : Psg, q.SameChannel ch.castSucc p ∧ (p.sampleStep c).SameChannel ch.castSucc (q.toneStep c ch) := by
  have emitted (q : Psg) (s : Sample) (k : Fin 4) : (q.emit c s).SameChannel k q := ⟨rfl, rfl, rfl⟩
  match ch with
  | 0 =>
    exact ⟨p, ⟨rfl, rfl, rfl⟩, (emitted ..).trans <| (Psg.noiseStep_sameChannel c _ (by decide)).trans <|
      (Psg.toneStep_sameChannel c _ (by decide)).trans (Psg.toneStep_sameChannel c _ (by decide))⟩
  | 1 =>
    exact ⟨p.toneStep c 0, Psg.toneStep_sameChannel c p (by decide), (emitted ..).trans <|
      (Psg.noiseStep_sameChannel c _ (by decide)).trans (Psg.toneStep_sameChannel c _ (by decide))⟩
  | 2 =>
    exact ⟨(p.toneStep c 0).toneStep c 1, (Psg.toneStep_sameChannel c _ (by decide)).trans
      (Psg.toneStep_sameChannel c p (by decide)), (emitted ..).trans (Psg.noiseStep_sameChannel c _ (by decide))⟩

/-- At an index of the vector the default is not used. -/
theorem vector_getD_val {α : Type} {n : Nat} (v : Vector α n) (i : Fin n) (d : α) : v.getD i d = v.get i :=
  dif_pos (i.isLt.trans_eq v.size_toArray.symm)

theorem vector_getD_castSucc {α : Type} {n : Nat} (v : Vector α (n + 1)) (i : Fin n) (d : α) :
    v.getD i d = v.get i.castSucc :=
  vector_getD_val v i.castSucc d

theorem Polarity.flip_eq_ite (x : Polarity) : x.flip = if x = .plus then .minus else .plus := by
  cases x <;> rfl

section ToneStep
variable {c : Config} {p : Psg} {ch : Fin 3}

/-- A period below the minimum holds +1 and keeps the counter (rule R506). -/
theorem Psg.toneStep_short (short : (p.tone.get ch).toNat < c.psgMinPeriod) :
    (p.toneStep c ch).pol.get ch.castSucc = .plus ∧ (p.toneStep c ch).ctr.get ch.castSucc = p.ctr.get ch.castSucc := by
  simp only [Psg.toneStep, vector_getD_val, if_pos short]
  simp [Vector.get_eq_getElem]

/-- A countdown that reaches zero or below adds the period and flips the polarity (rule R506). -/
theorem Psg.toneStep_due (long : c.psgMinPeriod ≤ (p.tone.get ch).toNat)
    (due : p.ctr.get ch.castSucc - c.psgDecrement ≤ 0) :
    (p.toneStep c ch).ctr.get ch.castSucc = p.ctr.get ch.castSucc - c.psgDecrement + (p.tone.get ch).toNat ∧
      (p.toneStep c ch).pol.get ch.castSucc = (p.pol.get ch.castSucc).flip := by
  simp only [Psg.toneStep, vector_getD_val, vector_getD_castSucc, if_neg long.not_gt, if_pos due]
  simp [Vector.get_eq_getElem]

/-- A countdown still above zero is stored, and the polarity stays (rule R506). -/
theorem Psg.toneStep_running (long : c.psgMinPeriod ≤ (p.tone.get ch).toNat)
    (running : 0 < p.ctr.get ch.castSucc - c.psgDecrement) :
    (p.toneStep c ch).ctr.get ch.castSucc = p.ctr.get ch.castSucc - c.psgDecrement ∧
      (p.toneStep c ch).pol.get ch.castSucc = p.pol.get ch.castSucc := by
  simp only [Psg.toneStep, vector_getD_val, vector_getD_castSucc, if_neg long.not_gt, if_neg running.not_ge]
  simp [Vector.get_eq_getElem]

end ToneStep

/-- Settles O31: the clock by the accumulator's independence of the sample step, the channels by each one's own step. -/
theorem psgSampleClock : Obligations.PsgSampleClock := by
  refine ⟨fun _ _ _ hc => ⟨Psg.update_of_lt, Psg.update_of_le hc⟩, fun c p ch => ?_⟩
  obtain ⟨q, before, after⟩ := p.sampleStep_sameChannel c ch
  simp only [after.ctr, after.pol, ← before.tone, ← before.ctr, ← before.pol, ← Polarity.flip_eq_ite]
  exact ⟨fun short => Psg.toneStep_short (by omega), fun long due => Psg.toneStep_due (by omega) due,
    fun long running => Psg.toneStep_running (by omega) running⟩

end Sys2Proof.Machine
end

section
/-! Every effect completes (60_exceptions.md rules R414, R540). -/

namespace Sys2Proof.Machine

/-- A conditional between two completed effects is a completed effect. -/
theorem exists_next_ite {c : Prop} [Decidable c] {r r' : Result State} (h : ∃ t, r = .next t)
    (h' : ∃ t, r' = .next t) : ∃ t, (if c then r else r') = .next t := by
  split
  · exact h
  · exact h'

/-! An undefined extended opcode, under either value of ED_UNDEFINED (48_cpu_control.md rule R388). -/

theorem exec_undefinedED_nop (op : Byte) {s : State} (h : s.cfg.edUndefined = .nop) :
    exec (.undefinedED op) s = done 8 s := by
  change execUndefinedED op s = _
  rw [execUndefinedED, h]

theorem exec_undefinedED_sourceNoni (op : Byte) {s : State} (h : s.cfg.edUndefined = .sourceNoni) :
    exec (.undefinedED op) s = done 8 { s with iff1 := false, iff2 := false, eiPending := true } := by
  change execUndefinedED op s = _
  rw [execUndefinedED, h]

/-! The repeating block instructions (46_block.md rule R332), each as its unit and the condition of its repeat. -/

/-- B is not 0: the condition of `INIR`, `INDR`, `OTIR` and `OTDR`. -/
def State.moreB (t : State) : Bool := decide (t.main.b ≠ 0#8)

/-- BC is not 0: the condition of `LDIR` and `LDDR`. -/
def State.moreBC (t : State) : Bool := decide (t.main.bc ≠ 0#16)

/-- BC is not 0 and there was no match: the condition of `CPIR` and `CPDR`. -/
def State.moreSearch (t : State) : Bool := decide (t.main.bc ≠ 0#16) && !t.flags.z

section Repeating
variable (s : State)

theorem exec_ldir : exec .ldir s = (s.transferUnit 1#16).repeatWhile State.moreBC := rfl
theorem exec_lddr : exec .lddr s = (s.transferUnit (-1#16)).repeatWhile State.moreBC := rfl
theorem exec_cpir : exec .cpir s = (s.compareUnit 1#16).repeatWhile State.moreSearch := rfl
theorem exec_cpdr : exec .cpdr s = (s.compareUnit (-1#16)).repeatWhile State.moreSearch := rfl
theorem exec_inir : exec .inir s = (s.inputUnit 1#16).repeatWhile State.moreB := rfl
theorem exec_indr : exec .indr s = (s.inputUnit (-1#16)).repeatWhile State.moreB := rfl
theorem exec_otir : exec .otir s = (s.outputUnit 1#16).repeatWhile State.moreB := rfl
theorem exec_otdr : exec .otdr s = (s.outputUnit (-1#16)).repeatWhile State.moreB := rfl

end Repeating

/-- Every instruction's effect completes. -/
theorem exec_total (i : Instr) (s : State) : ∃ t, exec i s = .next t := by
  cases i
  case jrCC | djnz | callCC | retCC | ldir | lddr | cpir | cpdr | inir | indr | otir | otdr =>
    exact exists_next_ite ⟨_, rfl⟩ ⟨_, rfl⟩
  case undefinedED op =>
    cases h : s.cfg.edUndefined
    · exact ⟨_, exec_undefinedED_nop op h⟩
    · exact ⟨_, exec_undefinedED_sourceNoni op h⟩
  all_goals exact ⟨_, rfl⟩

/-! Maskable acceptance, by interrupt mode (60_exceptions.md rule R417). -/

theorem State.acceptInt_of_im2 {s : State} (h : s.im = .im2) :
    s.acceptInt = { s.accept false false with
      pc := (s.accept false false).memRead16 (mkWord s.i s.cfg.intDataByte), cost := 19 } := by
  rw [State.acceptInt, h]
  rfl

theorem State.acceptInt_of_ne_im2 {s : State} (h : s.im ≠ .im2) :
    s.acceptInt = { s.accept false false with pc := 0x0038#16, cost := 13 } := by
  rw [State.acceptInt]
  cases hm : s.im
  case im2 => exact absurd hm h
  all_goals rfl

/-! The four branches of a machine step (60_exceptions.md rules R410, R411, R413). -/

theorem step_of_nmi {s : State} (h : s.nmiCond = true) : step s = .next s.acceptNmi.updateDevices := by
  rw [step, State.machineStep, State.cpuStep, if_pos h]

theorem step_of_int {s : State} (h : s.nmiCond = false) (h' : s.intCond = true) :
    step s = .next s.acceptInt.updateDevices := by
  rw [step, State.machineStep, State.cpuStep, if_neg (by simp [h]), if_pos h']

theorem step_of_idle {s : State} (h : s.nmiCond = false) (h' : s.intCond = false) (hh : s.halted = true) :
    step s = .next s.haltedIdle.updateDevices := by
  rw [step, State.machineStep, State.cpuStep, if_neg (by simp [h]), if_neg (by simp [h']), if_pos hh]

theorem step_of_exec {s t : State} (h : s.nmiCond = false) (h' : s.intCond = false) (hh : s.halted = false)
    (he : exec s.fetch (s.beginInstr s.fetch.size) = .next t) :
    step s = .next (t.endInstr s.eiPending).updateDevices := by
  rw [step, State.machineStep, State.cpuStep, if_neg (by simp [h]), if_neg (by simp [h']), if_neg (by simp [hh]),
    State.executeOne, he]

/-- What a machine step can do: one of its four branches, and then the devices are given its cost. -/
theorem step_cases {s t : State} (h : step s = .next t) :
    (s.nmiCond = true ∧ t = s.acceptNmi.updateDevices) ∨
    (s.nmiCond = false ∧ s.intCond = true ∧ t = s.acceptInt.updateDevices) ∨
    (s.nmiCond = false ∧ s.intCond = false ∧ s.halted = true ∧ t = s.haltedIdle.updateDevices) ∨
    (s.nmiCond = false ∧ s.intCond = false ∧ s.halted = false ∧
      ∃ u, exec s.fetch (s.beginInstr s.fetch.size) = .next u ∧ t = (u.endInstr s.eiPending).updateDevices) := by
  cases hn : s.nmiCond with
  | true =>
    rw [step_of_nmi hn] at h
    cases h
    exact .inl ⟨rfl, rfl⟩
  | false =>
    cases hi : s.intCond with
    | true =>
      rw [step_of_int hn hi] at h
      cases h
      exact .inr (.inl ⟨rfl, rfl, rfl⟩)
    | false =>
      cases hh : s.halted with
      | true =>
        rw [step_of_idle hn hi hh] at h
        cases h
        exact .inr (.inr (.inl ⟨rfl, rfl, rfl, rfl⟩))
      | false =>
        obtain ⟨u, hu⟩ := exec_total s.fetch (s.beginInstr s.fetch.size)
        rw [step_of_exec hn hi hh hu] at h
        cases h
        exact .inr (.inr (.inr ⟨rfl, rfl, rfl, u, hu, rfl⟩))

/-- Settles O5: every branch of the step answers, the last one because every effect completes. -/
theorem stepNeverStops : Obligations.StepNeverStops := by
  intro s
  cases hn : s.nmiCond with
  | true => exact ⟨_, step_of_nmi hn⟩
  | false =>
    cases hi : s.intCond with
    | true => exact ⟨_, step_of_int hn hi⟩
    | false =>
      cases hh : s.halted with
      | true => exact ⟨_, step_of_idle hn hi hh⟩
      | false =>
        obtain ⟨u, hu⟩ := exec_total s.fetch (s.beginInstr s.fetch.size)
        exact ⟨_, step_of_exec hn hi hh hu⟩

/-- Four bytes decode to the instruction that the decoder makes of them. -/
theorem decode_four {b0 b1 b2 b3 : Byte} {i : Instr} {rest : List Byte}
    (h : decode [b0, b1, b2, b3] = .ok (i, rest)) : decode4 b0 b1 b2 b3 = i := by
  simp only [decode] at h
  split at h
  · cases h
    rfl
  · cases h

/-- Settles O4: the last branch of the step. -/
theorem stepRunsDecoded : Obligations.StepRunsDecoded := by
  intro s t i rest hn hi hh hd he
  have fetched : s.fetch = i := decode_four hd
  subst fetched
  exact step_of_exec hn hi hh he

end Sys2Proof.Machine
end

section
/-! Noninterference: the PSG and the record of notifications reach nothing else (60_exceptions.md rule R500). -/

namespace Sys2Proof.Machine

/-- The state with another PSG and another record of notifications. -/
def State.withSound (s : State) (p : Psg) (k : Notices) : State := { s with psg := p, notices := k }

/-- The answer with another PSG and another record of notifications. -/
def Result.withSound (r : Result State) (p : Psg) (k : Notices) : Result State :=
  match r with
  | .next t => .next (t.withSound p k)
  | .fault f => .fault f
  | .refused f => .refused f

variable (s : State) (p : Psg) (k : Notices)

@[simp] theorem State.withSound_main : (s.withSound p k).main = s.main := rfl

theorem State.ioRead_withSound (port : Byte) :
    (s.withSound p k).ioRead port = ((s.ioRead port).1, (s.ioRead port).2.withSound p k) := by
  unfold State.ioRead
  split
  · rfl
  · split_ifs <;> rfl
  · split_ifs <;> rfl
  · split_ifs <;> rfl

/-- A port write is the one operation whose effect on the PSG depends on the PSG. -/
theorem State.ioWrite_withSound (port v : Byte) :
    ∃ p', (s.withSound p k).ioWrite port v = (s.ioWrite port v).withSound p' k := by
  unfold State.ioWrite
  split
  · exact ⟨_, rfl⟩
  · split_ifs <;> exact ⟨p, rfl⟩
  · exact ⟨p, rfl⟩

theorem State.inputUnit_withSound (step : Word) :
    (s.withSound p k).inputUnit step = (s.inputUnit step).withSound p k := by
  unfold State.inputUnit
  rw [State.withSound_main, State.ioRead_withSound]
  rfl

theorem State.outputUnit_withSound (step : Word) :
    ∃ p', (s.withSound p k).outputUnit step = (s.outputUnit step).withSound p' k := by
  obtain ⟨p', h⟩ := (s.setReg .b (s.main.b - 1#8)).ioWrite_withSound p k s.main.c (s.memRead s.main.hl)
  refine ⟨p', ?_⟩
  change ((((s.setReg .b (s.main.b - 1#8)).withSound p k).ioWrite s.main.c
    (s.memRead s.main.hl)).setHL (s.main.hl + step)).setBlockIoFlags = _
  rw [h]
  rfl

variable {s p k}

theorem withSound_ite {c : Prop} [Decidable c] {a b a' b' : Result State} (h : a' = Result.withSound a p k)
    (h' : b' = Result.withSound b p k) : (if c then a' else b') = Result.withSound (if c then a else b) p k := by
  split
  · exact h
  · exact h'

theorem State.repeatWhile_withSound {t : State} {more : State → Bool} (h : t = s.withSound p k)
    (hm : more (s.withSound p k) = more s) : t.repeatWhile more = Result.withSound (s.repeatWhile more) p k := by
  unfold State.repeatWhile
  rw [h, hm]
  exact withSound_ite rfl rfl

variable (s p k)

/-- An effect gives the same answer whatever the PSG and the notifications are, but for these. -/
theorem exec_withSound (i : Instr) : ∃ p', exec i (s.withSound p k) = Result.withSound (exec i s) p' k := by
  cases i
  case ldRpNN _ rp _ | incRp _ rp | decRp _ rp | ldRpMNN rp _ => cases rp <;> exact ⟨p, rfl⟩
  case popRp2 _ q => cases q <;> exact ⟨p, rfl⟩
  case incIXHalf h | decIXHalf h | ldIXHalfN h _ | incIYHalf h | decIYHalf h | ldIYHalfN h _ =>
    cases h <;> exact ⟨p, rfl⟩
  case ldPP dst src | ldQQ dst src => cases dst <;> cases src <;> exact ⟨p, rfl⟩
  case jrCC | djnz | callCC | retCC => exact ⟨p, withSound_ite rfl rfl⟩
  case jpCC px cc nn =>
    change ∃ p', done _ (if s.flags.holds cc then _ else _) =
      Result.withSound (done _ (if s.flags.holds cc then _ else _)) p' k
    split <;> exact ⟨p, rfl⟩
  case undefinedED op =>
    refine ⟨p, ?_⟩
    cases h : s.cfg.edUndefined
    · rw [exec_undefinedED_nop op h, exec_undefinedED_nop op (s := s.withSound p k) h]
      rfl
    · rw [exec_undefinedED_sourceNoni op h, exec_undefinedED_sourceNoni op (s := s.withSound p k) h]
      rfl
  case inAN _ n =>
    refine ⟨p, ?_⟩
    simp only [exec, execInAN, State.ioRead_withSound]
    rfl
  case inRC r =>
    refine ⟨p, ?_⟩
    simp only [exec, execInRC, State.withSound_main, State.ioRead_withSound]
    rfl
  case inC =>
    refine ⟨p, ?_⟩
    simp only [exec, execInC, State.withSound_main, State.ioRead_withSound]
    rfl
  case outNA px n =>
    obtain ⟨p', h⟩ := s.ioWrite_withSound p k n s.main.a
    exact ⟨p', congrArg (done (11 + px.extra)) h⟩
  case outCR r =>
    obtain ⟨p', h⟩ := s.ioWrite_withSound p k s.main.c (s.reg r)
    exact ⟨p', congrArg (done 12) h⟩
  case outC0 =>
    obtain ⟨p', h⟩ := s.ioWrite_withSound p k s.main.c 0x00#8
    exact ⟨p', congrArg (done 12) h⟩
  case ini => exact ⟨p, congrArg (done 16) (s.inputUnit_withSound p k 1#16)⟩
  case ind => exact ⟨p, congrArg (done 16) (s.inputUnit_withSound p k (-1#16))⟩
  case inir =>
    rw [exec_inir, exec_inir]
    exact ⟨p, State.repeatWhile_withSound (s.inputUnit_withSound p k _) rfl⟩
  case indr =>
    rw [exec_indr, exec_indr]
    exact ⟨p, State.repeatWhile_withSound (s.inputUnit_withSound p k _) rfl⟩
  case outi =>
    obtain ⟨p', h⟩ := s.outputUnit_withSound p k 1#16
    exact ⟨p', congrArg (done 16) h⟩
  case outd =>
    obtain ⟨p', h⟩ := s.outputUnit_withSound p k (-1#16)
    exact ⟨p', congrArg (done 16) h⟩
  case otir =>
    obtain ⟨p', h⟩ := s.outputUnit_withSound p k 1#16
    rw [exec_otir, exec_otir]
    exact ⟨p', State.repeatWhile_withSound h rfl⟩
  case otdr =>
    obtain ⟨p', h⟩ := s.outputUnit_withSound p k (-1#16)
    rw [exec_otdr, exec_otdr]
    exact ⟨p', State.repeatWhile_withSound h rfl⟩
  case ldir =>
    rw [exec_ldir, exec_ldir]
    exact ⟨p, State.repeatWhile_withSound rfl rfl⟩
  case lddr =>
    rw [exec_lddr, exec_lddr]
    exact ⟨p, State.repeatWhile_withSound rfl rfl⟩
  case cpir =>
    rw [exec_cpir, exec_cpir]
    exact ⟨p, State.repeatWhile_withSound rfl rfl⟩
  case cpdr =>
    rw [exec_cpdr, exec_cpdr]
    exact ⟨p, State.repeatWhile_withSound rfl rfl⟩
  all_goals exact ⟨p, rfl⟩

/-- Settles O33: each branch of the step commutes with a change of the PSG and the notifications. -/
theorem psgInvisible : Obligations.PsgInvisible := by
  intro s t p k h
  change ∃ p' k', step (s.withSound p k) = .next (t.withSound p' k')
  rcases step_cases h with ⟨hn, rfl⟩ | ⟨hn, hi, rfl⟩ | ⟨hn, hi, hh, rfl⟩ | ⟨hn, hi, hh, u, hu, rfl⟩
  · exact ⟨_, _, step_of_nmi (s := s.withSound p k) hn⟩
  · rw [step_of_int (s := s.withSound p k) hn hi]
    by_cases him : s.im = .im2
    · rw [State.acceptInt_of_im2 him, State.acceptInt_of_im2 (s := s.withSound p k) him]
      exact ⟨_, _, rfl⟩
    · rw [State.acceptInt_of_ne_im2 him, State.acceptInt_of_ne_im2 (s := s.withSound p k) him]
      exact ⟨_, _, rfl⟩
  · exact ⟨_, _, step_of_idle (s := s.withSound p k) hn hi hh⟩
  · obtain ⟨p', h'⟩ := exec_withSound (s.beginInstr s.fetch.size) p k s.fetch
    rw [hu] at h'
    exact ⟨_, _, step_of_exec (s := s.withSound p k) hn hi hh h'⟩

end Sys2Proof.Machine
end

section
/-! The invariant: every effect keeps the machine legal, and with it the ROM and the parameters (20_memory.md rule R61,
60_exceptions.md rules R450, R500). -/

namespace Sys2Proof.Machine

theorem State.wf_iff (s : State) : s.wf = true ↔ s.cfg.wf = true ∧ s.bus.wf = true ∧ s.vdp.wf s.cfg = true ∧
    s.psg.wf s.cfg = true ∧ s.notices.wf s.cfg = true := by
  simp [State.wf, and_assoc]

/-- `t` is legal if `s` is, with the ROM and the parameters of `s`. -/
def State.Keeps (s t : State) : Prop :=
  s.wf = true → t.wf = true ∧ t.cfg = s.cfg ∧ t.bus.rom = s.bus.rom ∧ t.bus.pageCount = s.bus.pageCount

theorem State.Keeps.trans {s t u : State} (h : s.Keeps t) (h' : t.Keeps u) : s.Keeps u := by
  intro hs
  obtain ⟨ht, hc, hr, hp⟩ := h hs
  obtain ⟨hu, hc', hr', hp'⟩ := h' ht
  exact ⟨hu, hc'.trans hc, hr'.trans hr, hp'.trans hp⟩

/-- Only the bus, the devices, the parameters and the notifications have to do with being legal. -/
theorem State.Keeps.of_eq {s t : State} (hb : t.bus = s.bus) (hv : t.vdp = s.vdp) (hp : t.psg = s.psg)
    (hc : t.cfg = s.cfg) (hn : t.notices = s.notices) : s.Keeps t := by
  intro hs
  refine ⟨?_, hc, by rw [hb], by rw [hb]⟩
  rw [State.wf, hb, hv, hp, hc, hn]
  exact hs

theorem State.Keeps.memWrite (s : State) (a : Word) (v : Byte) : s.Keeps (s.memWrite a v) := by
  intro hs
  obtain ⟨hc, hb, hrest⟩ := s.wf_iff.1 hs
  exact ⟨(State.wf_iff _).2 ⟨hc, Bus.wf_write a v hb, hrest⟩, rfl, Bus.write_rom .., Bus.write_pageCount ..⟩

/-- As `of_eq`, but for one byte stored. -/
theorem State.Keeps.of_write {s t : State} (a : Word) (v : Byte) (hb : t.bus = s.bus.write a v) (hv : t.vdp = s.vdp)
    (hp : t.psg = s.psg) (hc : t.cfg = s.cfg) (hn : t.notices = s.notices) : s.Keeps t :=
  (State.Keeps.memWrite s a v).trans (.of_eq hb hv hp hc hn)

/-- As `of_eq`, but for two bytes stored. -/
theorem State.Keeps.of_writes {s t : State} (a a' : Word) (v v' : Byte) (hb : t.bus = (s.bus.write a v).write a' v')
    (hv : t.vdp = s.vdp) (hp : t.psg = s.psg) (hc : t.cfg = s.cfg) (hn : t.notices = s.notices) : s.Keeps t :=
  (State.Keeps.memWrite s a v).trans (.of_write a' v' hb hv hp hc hn)

theorem State.Keeps.ioRead (s : State) (port : Byte) : s.Keeps (s.ioRead port).2 := by
  have withVdp {d : Vdp} {n : Nat} (hd : s.wf = true → d.wf s.cfg = true) : s.Keeps { s with vdp := d, draws := n } :=
    fun hs => ⟨(State.wf_iff _).2 ⟨(s.wf_iff.1 hs).1, (s.wf_iff.1 hs).2.1, hd hs, (s.wf_iff.1 hs).2.2.2⟩, rfl, rfl, rfl⟩
  unfold State.ioRead
  split
  · exact .of_eq rfl rfl rfl rfl rfl
  · split <;> exact .of_eq rfl rfl rfl rfl rfl
  · split
    · exact withVdp fun hs => Vdp.wf_statusRead _ (s.wf_iff.1 hs).2.2.1
    · exact withVdp fun hs => Vdp.wf_dataRead (s.wf_iff.1 hs).2.2.1
  · split <;> exact .of_eq rfl rfl rfl rfl rfl

theorem State.Keeps.ioWrite (s : State) (port v : Byte) : s.Keeps (s.ioWrite port v) := by
  intro hs
  obtain ⟨hc, hb, hv, hp, hn⟩ := s.wf_iff.1 hs
  unfold State.ioWrite
  split
  · exact ⟨(State.wf_iff _).2 ⟨hc, hb, hv, Psg.wf_write v hp, hn⟩, rfl, rfl, rfl⟩
  · split
    · exact ⟨(State.wf_iff _).2 ⟨hc, hb, Vdp.wf_controlWrite v hv, hp, hn⟩, rfl, rfl, rfl⟩
    · exact ⟨(State.wf_iff _).2 ⟨hc, hb, Vdp.wf_dataWrite v hv, hp, hn⟩, rfl, rfl, rfl⟩
  · obtain ⟨hpage, hrom, hcart, hsys, hlatch⟩ := (Bus.wf_iff _).1 hb
    have latched := Memory.wf_write (v := v) port.isLt hlatch
    exact ⟨(State.wf_iff _).2 ⟨hc, (Bus.wf_iff _).2 ⟨hpage, hrom, hcart, hsys, latched⟩, hv, hp, hn⟩, rfl, rfl, rfl⟩

theorem State.Keeps.transferUnit (s : State) (step : Word) : s.Keeps (s.transferUnit step) :=
  .of_write s.main.de (s.memRead s.main.hl) rfl rfl rfl rfl rfl

theorem State.Keeps.compareUnit (s : State) (step : Word) : s.Keeps (s.compareUnit step) := .of_eq rfl rfl rfl rfl rfl

theorem State.Keeps.inputUnit (s : State) (step : Word) : s.Keeps (s.inputUnit step) :=
  (State.Keeps.ioRead s s.main.c).trans (.of_write s.main.hl (s.ioRead s.main.c).1 rfl rfl rfl rfl rfl)

theorem State.Keeps.outputUnit (s : State) (step : Word) : s.Keeps (s.outputUnit step) :=
  (State.Keeps.of_eq (t := s.setReg .b (s.main.b - 1#8)) rfl rfl rfl rfl rfl).trans <|
    (State.Keeps.ioWrite _ s.main.c (s.memRead s.main.hl)).trans (.of_eq rfl rfl rfl rfl rfl)

/-- Where the answer is a next state, it is legal if `s` is. -/
def Result.KeepsFrom (s : State) (r : Result State) : Prop := ∀ t, r = .next t → s.Keeps t

theorem keepsFrom_done {s t : State} (n : Nat) (h : s.Keeps t) : Result.KeepsFrom s (done n t) := by
  intro u hu
  cases hu
  exact h.trans (.of_eq rfl rfl rfl rfl rfl)

theorem keepsFrom_ite {s : State} {c : Prop} [Decidable c] {r r' : Result State} (h : Result.KeepsFrom s r)
    (h' : Result.KeepsFrom s r') : Result.KeepsFrom s (if c then r else r') := by
  split
  · exact h
  · exact h'

theorem keepsFrom_repeatWhile {s t : State} {more : State → Bool} (h : s.Keeps t) :
    Result.KeepsFrom s (t.repeatWhile more) :=
  keepsFrom_ite (keepsFrom_done 21 (h.trans (.of_eq rfl rfl rfl rfl rfl))) (keepsFrom_done 16 h)

/-- An effect is a change of registers, one or two bytes stored, or a port access. -/
theorem exec_keeps (i : Instr) (s : State) : Result.KeepsFrom s (exec i s) := by
  cases i
  case ldBCA | ldDEA | ldMNNA | ldMHLR | ldMHLN | ldMIXR | ldMIXN | ldMIYR | ldMIYN | incMHL | decMHL | incMIX | decMIX
      | incMIY | decMIY | rlcMHL | rrcMHL | rlMHL | rrMHL | slaMHL | sraMHL | sllMHL | srlMHL | rlcMIX | rrcMIX | rlMIX
      | rrMIX | slaMIX | sraMIX | sllMIX | srlMIX | rlcMIY | rrcMIY | rlMIY | rrMIY | slaMIY | sraMIY | sllMIY | srlMIY
      | rotMIXR | rotMIYR | resMHL | setMHL | resMIX | setMIX | resMIXR | setMIXR | resMIY | setMIY | resMIYR | setMIYR
      | rrd | rld | ldi | ldd =>
    exact keepsFrom_done _ (.of_write _ _ rfl rfl rfl rfl rfl)
  case ldMNNHL | ldMNNRp | ldMNNIX | ldMNNIY | pushRp2 | pushIX | pushIY | call | rst | exSPHL | exSPIX | exSPIY =>
    exact keepsFrom_done _ (.of_writes _ _ _ _ rfl rfl rfl rfl rfl)
  case jrCC | djnz | retCC =>
    exact keepsFrom_ite (keepsFrom_done _ (.of_eq rfl rfl rfl rfl rfl)) (keepsFrom_done _ (.of_eq rfl rfl rfl rfl rfl))
  case callCC =>
    exact keepsFrom_ite (keepsFrom_done _ (.of_writes _ _ _ _ rfl rfl rfl rfl rfl))
      (keepsFrom_done _ (.of_eq rfl rfl rfl rfl rfl))
  case jpCC px cc nn =>
    refine keepsFrom_done _ ?_
    split <;> exact .of_eq rfl rfl rfl rfl rfl
  case ldRpNN _ rp _ | incRp _ rp | decRp _ rp | ldRpMNN rp _ =>
    cases rp <;> exact keepsFrom_done _ (.of_eq rfl rfl rfl rfl rfl)
  case popRp2 _ q => cases q <;> exact keepsFrom_done _ (.of_eq rfl rfl rfl rfl rfl)
  case incIXHalf h | decIXHalf h | ldIXHalfN h _ | incIYHalf h | decIYHalf h | ldIYHalfN h _ =>
    cases h <;> exact keepsFrom_done _ (.of_eq rfl rfl rfl rfl rfl)
  case ldPP dst _ | ldQQ dst _ => cases dst <;> exact keepsFrom_done _ (.of_eq rfl rfl rfl rfl rfl)
  case undefinedED op =>
    cases h : s.cfg.edUndefined
    · rw [exec_undefinedED_nop op h]
      exact keepsFrom_done _ (.of_eq rfl rfl rfl rfl rfl)
    · rw [exec_undefinedED_sourceNoni op h]
      exact keepsFrom_done _ (.of_eq rfl rfl rfl rfl rfl)
  case inAN _ n => exact keepsFrom_done _ ((State.Keeps.ioRead s n).trans (.of_eq rfl rfl rfl rfl rfl))
  case inRC | inC => exact keepsFrom_done _ ((State.Keeps.ioRead s s.main.c).trans (.of_eq rfl rfl rfl rfl rfl))
  case outNA | outCR | outC0 => exact keepsFrom_done _ (.ioWrite s _ _)
  case ini | ind => exact keepsFrom_done _ (.inputUnit s _)
  case outi | outd => exact keepsFrom_done _ (.outputUnit s _)
  case inir => exact exec_inir s ▸ keepsFrom_repeatWhile (.inputUnit s _)
  case indr => exact exec_indr s ▸ keepsFrom_repeatWhile (.inputUnit s _)
  case otir => exact exec_otir s ▸ keepsFrom_repeatWhile (.outputUnit s _)
  case otdr => exact exec_otdr s ▸ keepsFrom_repeatWhile (.outputUnit s _)
  case ldir => exact exec_ldir s ▸ keepsFrom_repeatWhile (.transferUnit s _)
  case lddr => exact exec_lddr s ▸ keepsFrom_repeatWhile (.transferUnit s _)
  case cpir => exact exec_cpir s ▸ keepsFrom_repeatWhile (.compareUnit s _)
  case cpdr => exact exec_cpdr s ▸ keepsFrom_repeatWhile (.compareUnit s _)
  all_goals exact keepsFrom_done _ (.of_eq rfl rfl rfl rfl rfl)

theorem Config.wf_positive {c : Config} (h : c.wf = true) : 0 < c.cyclesPerLine ∧ 0 < c.linesPerFrame ∧
    0 < c.psgCyclesPerSample ∧ 0 < c.psgFloatBits ∧ 0 < c.psgReadySamples := by
  simp only [Config.wf, Bool.and_eq_true, decide_eq_true_eq] at h
  omega

/-! What the devices' update leaves alone, and what it does to the devices. -/

section Update
variable (s : State)

theorem State.updateDevices_eq : s.updateDevices = { s with
    psg := s.psg.update s.cfg s.cost
    vdp := (s.vdp.update s.cfg s.cost).1
    notices := { s.notices.countSamples s.cfg (s.psg.samplesDue s.cfg s.cost) with
      frameReady := (s.notices.countSamples s.cfg (s.psg.samplesDue s.cfg s.cost)).frameReady +
        (s.vdp.update s.cfg s.cost).2 } } := rfl

end Update

/-- The devices stay legal, since the parameters' periods are positive. -/
theorem State.Keeps.updateDevices (s : State) : s.Keeps s.updateDevices := by
  intro hs
  obtain ⟨hc, hb, hv, hp, -⟩ := s.wf_iff.1 hs
  obtain ⟨hline, hframe, hsample, hbits, hready⟩ := Config.wf_positive hc
  exact ⟨(State.wf_iff _).2 ⟨hc, hb, Vdp.wf_update _ hline hframe hv, Psg.wf_update _ hsample hbits hp,
    Notices.wf_countSamples (k := s.notices) _ hready⟩, rfl, rfl, rfl⟩

theorem State.Keeps.acceptNmi (s : State) : s.Keeps s.acceptNmi := .of_writes _ _ _ _ rfl rfl rfl rfl rfl

theorem State.Keeps.acceptInt (s : State) : s.Keeps s.acceptInt := by
  have accepted : s.Keeps (s.accept false false) := .of_writes _ _ _ _ rfl rfl rfl rfl rfl
  by_cases him : s.im = .im2
  · rw [State.acceptInt_of_im2 him]
    exact accepted.trans (.of_eq rfl rfl rfl rfl rfl)
  · rw [State.acceptInt_of_ne_im2 him]
    exact accepted.trans (.of_eq rfl rfl rfl rfl rfl)

/-- Settles O13: each branch of the step keeps the machine legal, and the devices' update after it does. -/
theorem stepKeepsLegal : Obligations.StepKeepsLegal := by
  intro s t hs h
  have keeps : s.Keeps t := by
    rcases step_cases h with ⟨-, rfl⟩ | ⟨-, -, rfl⟩ | ⟨-, -, -, rfl⟩ | ⟨-, -, -, u, hu, rfl⟩
    · exact (State.Keeps.acceptNmi s).trans (.updateDevices _)
    · exact (State.Keeps.acceptInt s).trans (.updateDevices _)
    · exact (State.Keeps.of_eq (t := s.haltedIdle) rfl rfl rfl rfl rfl).trans (.updateDevices _)
    · have effect : s.Keeps u :=
        (State.Keeps.of_eq (t := s.beginInstr s.fetch.size) rfl rfl rfl rfl rfl).trans (exec_keeps _ _ u hu)
      exact (effect.trans (.of_eq rfl rfl rfl rfl rfl)).trans (.updateDevices _)
  exact keeps hs

end Sys2Proof.Machine
end

section
/-! Encoding and decoding are inverse (30_encoding.md sections 3 and 4). A statement about every opcode byte, with the
bytes after it left open, is shown by evaluating both of its sides at each of the 256 bytes. -/

namespace Sys2Proof
open Sys2Proof.Machine

/-- The values of `f` at the bytes that `p` selects, by the fields `x`, `y` and `z` (rule R101). -/
def table {α : Type} (p : Byte → Bool) (f : Byte → α) : List (List (List (Option α))) :=
  [0#2, 1#2, 2#2, 3#2].map fun x => [0#3, 1#3, 2#3, 3#3, 4#3, 5#3, 6#3, 7#3].map fun y =>
    [0#3, 1#3, 2#3, 3#3, 4#3, 5#3, 6#3, 7#3].map fun z =>
      bif p (opXYZ x y z) then some (f (opXYZ x y z)) else none

theorem opXYZ_fields (op : Byte) : opXYZ (xField op) (yField op) (zField op) = op := by
  revert op
  decide

/-- Two functions agree at every byte that `p` selects, if their tables do. -/
theorem eq_of_tables {α : Type} {p : Byte → Bool} {f g : Byte → α} (h : table p f = table p g) {op : Byte}
    (hp : p op = true) : f op = g op := by
  have hx : ∀ x : BitVec 2, x ∈ [0#2, 1#2, 2#2, 3#2] := by decide
  have hy : ∀ y : BitVec 3, y ∈ [0#3, 1#3, 2#3, 3#3, 4#3, 5#3, 6#3, 7#3] := by decide
  have at_ := List.map_inj_left.1 (List.map_inj_left.1 (List.map_inj_left.1 h _ (hx (xField op))) _ (hy (yField op))) _
    (hy (zField op))
  rw [opXYZ_fields, hp] at at_
  exact Option.some.inj at_

/-! Any four bytes (rule R121). -/

/-- The bytes of a format after its opcode byte (rule R102), that of `prefixNop` included. -/
def Format.tail (f : Format) (n m : Byte) : List Byte :=
  match f with
  | .b | .cb | .ed | .x | .look => []
  | .bn | .be | .xn | .xd | .xcb => [n]
  | .bnn | .edNN | .xnn => [loByte (mkWord m n), hiByte (mkWord m n)]
  | .xdn => [n, m]

theorem Format.tail_prefix (f : Format) (n m : Byte) : f.tail n m <+: [n, m] := by
  cases f <;> simp [Format.tail]

/-- Whether the instruction is well-formed, and its bytes. -/
def Instr.image (i : Instr) : Bool × List Byte := (i.wf, encode i)

/-- The bytes that are no instruction of the base space: the four prefixes (rule R104). -/
def isPrefix (op : Byte) : Bool := op == 0xCB#8 || op == 0xDD#8 || op == 0xED#8 || op == 0xFD#8

theorem decodeMain_image {op : Byte} (h : isPrefix op = false) (n m : Byte) :
    (decodeMain .none op n m).image = (true, op :: (decodeMain .none op n m).format.tail n m) :=
  eq_of_tables (p := fun op => !isPrefix op) (f := fun op => (decodeMain .none op n m).image)
    (g := fun op => (true, op :: (decodeMain .none op n m).format.tail n m)) rfl (by rw [h, Bool.not_false])

theorem decodeCB_image (op : Byte) : (decodeCB op).image = (true, [0xCB#8, op]) :=
  eq_of_tables (p := fun _ => true) (f := fun op => (decodeCB op).image) (g := fun op => (true, [0xCB#8, op])) rfl rfl

theorem decodeED_image (op n m : Byte) :
    (decodeED op n m).image = (true, 0xED#8 :: op :: (decodeED op n m).format.tail n m) :=
  eq_of_tables (p := fun _ => true) (f := fun op => (decodeED op n m).image)
    (g := fun op => (true, 0xED#8 :: op :: (decodeED op n m).format.tail n m)) rfl rfl

theorem decodePrefixed_image (x : Idx) {op : Byte} (h : op ≠ 0xCB#8) (n m : Byte) :
    (decodePrefixed x op n m).image = (true, x.byte :: op :: (decodePrefixed x op n m).format.tail n m) := by
  cases x <;>
    exact eq_of_tables (p := fun op => op != 0xCB#8) (f := fun op => (decodePrefixed _ op n m).image)
      (g := fun op => (true, Idx.byte _ :: op :: (decodePrefixed _ op n m).format.tail n m)) rfl (bne_iff_ne.2 h)

theorem decodePrefixed_CB_image (x : Idx) (d op : Byte) :
    (decodePrefixed x 0xCB#8 d op).image = (true, [x.byte, 0xCB#8, d, op]) := by
  cases x <;>
    exact eq_of_tables (p := fun _ => true) (f := fun op => (decodePrefixed _ 0xCB#8 d op).image)
      (g := fun op => (true, [Idx.byte _, 0xCB#8, d, op])) rfl rfl

/-- The instruction is well-formed and its bytes are the first ones. -/
def BeginsWith (i : Instr) (bytes : List Byte) : Prop := i.wf = true ∧ encode i <+: bytes

theorem beginsWith_of_image {i : Instr} {code bytes : List Byte} (h : i.image = (true, code)) (hp : code <+: bytes) :
    BeginsWith i bytes :=
  have bytesOf : encode i = code := congrArg Prod.snd h
  ⟨congrArg Prod.fst h, bytesOf ▸ hp⟩

theorem decodePrefixed_beginsWith (x : Idx) (b1 b2 b3 : Byte) :
    BeginsWith (decodePrefixed x b1 b2 b3) [x.byte, b1, b2, b3] := by
  by_cases h : b1 = 0xCB#8
  · subst h
    exact beginsWith_of_image (decodePrefixed_CB_image x b2 b3) (List.prefix_refl _)
  · exact beginsWith_of_image (decodePrefixed_image x h b2 b3) (by simpa using Format.tail_prefix _ b2 b3)

/-- Settles O2, opcode space by opcode space. -/
theorem encodeOfDecode : Obligations.EncodeOfDecode := by
  intro b0 b1 b2 b3
  change BeginsWith (decode4 b0 b1 b2 b3) [b0, b1, b2, b3]
  unfold decode4
  split_ifs with hCB hED hDD hFD
  · subst hCB
    exact beginsWith_of_image (decodeCB_image b1) (by simp)
  · subst hED
    exact beginsWith_of_image (decodeED_image b1 b2 b3) (by simpa using Format.tail_prefix _ b2 b3)
  · subst hDD
    exact decodePrefixed_beginsWith .ix b1 b2 b3
  · subst hFD
    exact decodePrefixed_beginsWith .iy b1 b2 b3
  · refine beginsWith_of_image (decodeMain_image (by simp [isPrefix, *]) b1 b2) ?_
    simpa using (Format.tail_prefix _ b1 b2).trans (List.prefix_append [b1, b2] [b3])

/-- Settles O3, by evaluating the decoder. -/
theorem decodeWrittenWords : Obligations.DecodeWrittenWords := by
  unfold Obligations.DecodeWrittenWords
  decide

/-! Every well-formed instruction. -/

theorem decodeED_of_isUndefinedED {op : Byte} (h : isUndefinedED op = true) (n m : Byte) :
    decodeED op n m = .undefinedED op :=
  eq_of_tables (p := isUndefinedED) (f := fun op => decodeED op n m) (g := .undefinedED) rfl h

/-- The instruction that `code` begins with, `a`, `b`, `c`, `d` being the bytes after it. -/
def decodeThen (code : List Byte) (a b c d : Byte) : Instr :=
  match code with
  | [] => decode4 a b c d
  | [w] => decode4 w a b c
  | [w, x] => decode4 w x a b
  | [w, x, y] => decode4 w x y a
  | w :: x :: y :: z :: _ => decode4 w x y z

/-- The eight values of a field `y` or `z`. -/
theorem bits3_cases {motive : BitVec 3 → Prop} (h0 : motive 0#3) (h1 : motive 1#3) (h2 : motive 2#3) (h3 : motive 3#3)
    (h4 : motive 4#3) (h5 : motive 5#3) (h6 : motive 6#3) (h7 : motive 7#3) (b : BitVec 3) : motive b := by
  obtain rfl | rfl | rfl | rfl | rfl | rfl | rfl | rfl : b = 0#3 ∨ b = 1#3 ∨ b = 2#3 ∨ b = 3#3 ∨ b = 4#3 ∨ b = 5#3 ∨
      b = 6#3 ∨ b = 7#3 := by
    revert b
    decide
  all_goals assumption

/-- The decoder reads the bytes of a well-formed instruction as that instruction, whatever follows them. The operands
that select opcode bits are split into their values; the others stand in bytes of their own. -/
theorem decodeThen_encode {i : Instr} (h : i.wf = true) (a b c d : Byte) :
    decodeThen (encode i) a b c d = i := by
  cases i
  case nop px | ldBCA px | rlca px | exAF px | ldABC px | rrca px | ldDEA px | rla px | ldADE px | rra px | daa px
      | cpl px | scf px | ccf px | halt px | ret px | exx px | exDEHL px | di px | ei px => cases px <;> rfl
  case djnz px _ | jr px _ | addN px _ | adcN px _ | subN px _ | sbcN px _ | andN px _ | xorN px _ | orN px _ | cpN px _
      | outNA px _ | inAN px _ => cases px <;> rfl
  case incR px r | decR px r | addR px r | adcR px r | subR px r | sbcR px r | andR px r | xorR px r | orR px r
      | cpR px r => cases px <;> cases r <;> first | rfl | cases h
  case ldRN px r _ => cases px <;> cases r <;> first | rfl | cases h
  case ldRR px dst src => cases px <;> cases dst <;> cases src <;> first | rfl | cases h
  case incRp px rp | decRp px rp => cases px <;> cases rp <;> first | rfl | cases h
  case popRp2 px q | pushRp2 px q => cases px <;> cases q <;> first | rfl | cases h
  case jrCC px cc _ => cases px <;> cases cc <;> first | rfl | cases h
  case retCC px cc => cases px <;> cases cc <;> rfl
  case rst px y => cases px <;> induction y using bits3_cases <;> rfl
  case ldRpNN px rp nn =>
    cases px <;> cases rp <;> first | exact congrArg (Instr.ldRpNN _ _) (mkWord_hiByte_loByte nn) | cases h
  case jpCC px cc nn => cases px <;> cases cc <;> exact congrArg (Instr.jpCC _ _) (mkWord_hiByte_loByte nn)
  case callCC px cc nn => cases px <;> cases cc <;> exact congrArg (Instr.callCC _ _) (mkWord_hiByte_loByte nn)
  case ldMNNA px nn => cases px <;> exact congrArg (Instr.ldMNNA _) (mkWord_hiByte_loByte nn)
  case ldAMNN px nn => cases px <;> exact congrArg (Instr.ldAMNN _) (mkWord_hiByte_loByte nn)
  case jp px nn => cases px <;> exact congrArg (Instr.jp _) (mkWord_hiByte_loByte nn)
  case call px nn => cases px <;> exact congrArg (Instr.call _) (mkWord_hiByte_loByte nn)
  case ldMNNHL nn => exact congrArg Instr.ldMNNHL (mkWord_hiByte_loByte nn)
  case ldHLMNN nn => exact congrArg Instr.ldHLMNN (mkWord_hiByte_loByte nn)
  case ldIXNN nn => exact congrArg Instr.ldIXNN (mkWord_hiByte_loByte nn)
  case ldMNNIX nn => exact congrArg Instr.ldMNNIX (mkWord_hiByte_loByte nn)
  case ldIXMNN nn => exact congrArg Instr.ldIXMNN (mkWord_hiByte_loByte nn)
  case ldIYNN nn => exact congrArg Instr.ldIYNN (mkWord_hiByte_loByte nn)
  case ldMNNIY nn => exact congrArg Instr.ldMNNIY (mkWord_hiByte_loByte nn)
  case ldIYMNN nn => exact congrArg Instr.ldIYMNN (mkWord_hiByte_loByte nn)
  case ldMNNRp rp nn => cases rp <;> exact congrArg (Instr.ldMNNRp _) (mkWord_hiByte_loByte nn)
  case ldRpMNN rp nn => cases rp <;> exact congrArg (Instr.ldRpMNN _) (mkWord_hiByte_loByte nn)
  case addHLRp rp | sbcHLRp rp | adcHLRp rp | addIXRp rp | addIYRp rp => cases rp <;> rfl
  case ldRMHL r | ldMHLR r | rlcR r | rrcR r | rlR r | rrR r | slaR r | sraR r | sllR r | srlR r | inRC r | outCR r =>
    cases r <;> rfl
  case ldRMIX r _ | ldMIXR r _ | ldRMIY r _ | ldMIYR r _ => cases r <;> rfl
  case incIXHalf k | decIXHalf k | addIXHalf k | adcIXHalf k | subIXHalf k | sbcIXHalf k | andIXHalf k | xorIXHalf k
      | orIXHalf k | cpIXHalf k | incIYHalf k | decIYHalf k | addIYHalf k | adcIYHalf k | subIYHalf k | sbcIYHalf k
      | andIYHalf k | xorIYHalf k | orIYHalf k | cpIYHalf k => cases k <;> rfl
  case ldIXHalfN k _ | ldIYHalfN k _ => cases k <;> rfl
  case ldPP dst src | ldQQ dst src => cases dst <;> cases src <;> first | rfl | cases h
  case prefixNop first second => cases first <;> cases second <;> rfl
  case prefixBeforeED first => cases first <;> rfl
  case bitR b r | resR b r | setR b r => induction b using bits3_cases <;> cases r <;> rfl
  case bitMHL b | resMHL b | setMHL b | resMIX b _ | setMIX b _ | resMIY b _ | setMIY b _ =>
    induction b using bits3_cases <;> rfl
  case negDup y | im0Dup y | retnDup y | nopED y => induction y using bits3_cases <;> first | rfl | cases h
  case rotMIXR rot _ r | rotMIYR rot _ r => cases rot <;> cases r <;> rfl
  case bitMIX b _ z | bitMIY b _ z => induction b using bits3_cases <;> induction z using bits3_cases <;> rfl
  case resMIXR b _ r | setMIXR b _ r | resMIYR b _ r | setMIYR b _ r =>
    induction b using bits3_cases <;> cases r <;> rfl
  case undefinedED op => exact decodeED_of_isUndefinedED h a b
  all_goals rfl

/-- The first four bytes of a list, zeros after its end, with `code` in front. -/
theorem decode4_getD (code rest : List Byte) :
    decode4 ((code ++ rest).getD 0 0#8) ((code ++ rest).getD 1 0#8) ((code ++ rest).getD 2 0#8)
      ((code ++ rest).getD 3 0#8) =
    decodeThen code (rest.getD 0 0#8) (rest.getD 1 0#8) (rest.getD 2 0#8) (rest.getD 3 0#8) := by
  unfold decodeThen
  split <;> simp

/-- The encoder writes as many bytes as the decoder fetches (rule R102). -/
theorem length_encode (i : Instr) : (encode i).length = i.size := by
  have prefixed (px : Pfx) : px.bytes.length = px.length := by cases px <;> rfl
  cases i <;> simp [encode, Instr.size, Instr.pfx, Instr.format, Format.length, prefixed, Pfx.length]

/-- Settles O1: the bytes are read as the instruction, and are as many as the decoder takes. -/
theorem decodeOfEncode : Obligations.DecodeOfEncode := by
  intro i rest h
  have head : decode4 ((encode i ++ rest).getD 0 0#8) ((encode i ++ rest).getD 1 0#8) ((encode i ++ rest).getD 2 0#8)
      ((encode i ++ rest).getD 3 0#8) = i := by
    rw [decode4_getD, decodeThen_encode h]
  rw [decode]
  simp only [head, ← length_encode]
  simp

end Sys2Proof
end

section
/-! The VDP's clock (60_exceptions.md rules R460, R465, R466, R471): what entering a line changes, and that rendering
has no part in the clock. -/

namespace Sys2Proof.Machine

/-! Rendering neither reads nor writes the clock. -/

/-- The VDP with another position and other interrupt flags. -/
def Vdp.withClock (v : Vdp) (hc line : Nat) (ctr : Byte) (lp fp : Bool) : Vdp :=
  { v with hc := hc, line := line, lineCtr := ctr, linePending := lp, framePending := fp }

section Rendering
variable (v : Vdp) (hc line : Nat) (ctr : Byte) (lp fp : Bool)

theorem Vdp.drawRow_withClock (pa : Nat) (x : Int) (pxs : List Nat) (sl : SpriteLine) :
    (v.withClock hc line ctr lp fp).drawRow pa x pxs sl = v.drawRow pa x pxs sl := by
  induction pxs generalizing sl with
  | nil => rfl
  | cons px pxs ih => exact ih _

theorem Vdp.drawSprite_withClock (ln i : Nat) (top : Int) (sl : SpriteLine) :
    (v.withClock hc line ctr lp fp).drawSprite ln i top sl = v.drawSprite ln i top sl :=
  Vdp.drawRow_withClock v hc line ctr lp fp _ _ _ sl

theorem Vdp.spritePass_withClock (ln : Nat) (is : List Nat) (n : Nat) (sl : SpriteLine) :
    (v.withClock hc line ctr lp fp).spritePass ln is n sl = v.spritePass ln is n sl := by
  induction is generalizing n sl with
  | nil => rfl
  | cons i is ih =>
    simp only [Vdp.spritePass, Vdp.drawSprite_withClock, ih]
    rfl

theorem Vdp.renderLine_withClock (ln : Nat) :
    (v.withClock hc line ctr lp fp).renderLine ln = (v.renderLine ln).withClock hc line ctr lp fp := by
  have hs : (v.withClock hc line ctr lp fp).sprites ln = v.sprites ln :=
    Vdp.spritePass_withClock v hc line ctr lp fp ln _ _ _
  have hd : (v.withClock hc line ctr lp fp).displayEnabled = v.displayEnabled := rfl
  rw [Vdp.renderLine, Vdp.renderLine, hs, hd]
  split <;> rfl

end Rendering

variable (c : Config) (v : Vdp)

/-- Rendering changes FB and the two sprite status bits. -/
theorem Vdp.renderLine_eq (ln : Nat) : v.renderLine ln = { v with
    fb := (v.renderLine ln).fb, sprOvf := (v.renderLine ln).sprOvf, sprCol := (v.renderLine ln).sprCol } := by
  unfold Vdp.renderLine
  split <;> rfl

/-! The countdown and the frame interrupt on entering line `ln`. -/

/-- LINE_CTR and LINE_PENDING on entering line `ln` (rule R465). -/
def Vdp.countdown (ln : Nat) : Byte × Bool :=
  if ln ≤ c.activeHeight then
    if v.lineCtr = 0#8 then (v.reg[10], true) else (v.lineCtr - 1#8, v.linePending)
  else (v.reg[10], v.linePending)

section Countdown
variable {c v} {ln : Nat}

theorem Vdp.countdown_reload (h : ln ≤ c.activeHeight) (h0 : v.lineCtr = 0#8) :
    v.countdown c ln = (v.reg[10], true) := by
  rw [Vdp.countdown, if_pos h, if_pos h0]

theorem Vdp.countdown_down (h : ln ≤ c.activeHeight) (h0 : v.lineCtr ≠ 0#8) :
    v.countdown c ln = (v.lineCtr - 1#8, v.linePending) := by
  rw [Vdp.countdown, if_pos h, if_neg h0]

theorem Vdp.countdown_inactive (h : c.activeHeight < ln) : v.countdown c ln = (v.reg[10], v.linePending) := by
  rw [Vdp.countdown, if_neg (Nat.not_le.2 h)]

theorem Vdp.countdown_keeps_linePending (h : v.linePending = true) : (v.countdown c ln).2 = true := by
  unfold Vdp.countdown
  split_ifs
  · rfl
  · exact h
  · exact h

end Countdown

/-- FRAME_PENDING on entering line `ln` (rule R466). -/
def Vdp.framePendingAt (ln : Nat) : Bool := v.framePending || decide (ln = c.frameIntLine)

/-- The line entered at the end of a line. -/
def Vdp.nextLine : Nat := (v.line + 1) % c.linesPerFrame

theorem Vdp.frameInt_countLine (ln : Nat) : (Vdp.countLine c { v with line := ln }).frameInt c =
    v.withClock v.hc ln (v.countdown c ln).1 (v.countdown c ln).2 (v.framePendingAt c ln) := by
  unfold Vdp.countdown Vdp.framePendingAt Vdp.countLine Vdp.frameInt
  dsimp only
  split_ifs <;> simp_all [Vdp.withClock]

/-- What an end of line does: the line entered is rendered while active, and the clock moves on to it. -/
theorem Vdp.endOfLine_eq :
    v.endOfLine c = (if v.nextLine c < c.activeHeight then v.renderLine (v.nextLine c) else v).withClock v.hc
      (v.nextLine c) (v.countdown c (v.nextLine c)).1 (v.countdown c (v.nextLine c)).2
      (v.framePendingAt c (v.nextLine c)) := by
  rw [Vdp.endOfLine, ← Vdp.nextLine, Vdp.frameInt_countLine]
  change (if v.nextLine c < c.activeHeight then Vdp.renderLine _ (v.nextLine c) else _) = _
  rw [Vdp.renderLine_withClock]
  split <;> rfl

theorem Vdp.endOfLine_setHc (a : Nat) : Vdp.endOfLine c { v with hc := a } = { v.endOfLine c with hc := a } := by
  rw [Vdp.endOfLine_eq, Vdp.endOfLine_eq]
  change Vdp.withClock (if v.nextLine c < c.activeHeight
    then (v.withClock a v.line v.lineCtr v.linePending v.framePending).renderLine (v.nextLine c) else _) _ _ _ _ _ = _
  rw [Vdp.renderLine_withClock]
  split <;> rfl

/-- The interrupt line stays high at an end of line: no pending flag is cleared and no register written. -/
theorem Vdp.intLine_endOfLine {v : Vdp} (h : v.intLine = true) : (v.endOfLine c).intLine = true := by
  have hreg : (v.endOfLine c).reg = v.reg := by
    rw [Vdp.endOfLine_eq]
    split
    · rw [Vdp.renderLine_eq]
      rfl
    · rfl
  have hframe : v.framePending = true → (v.endOfLine c).framePending = true := by
    intro hp
    rw [Vdp.endOfLine_eq]
    simp [Vdp.withClock, Vdp.framePendingAt, hp]
  have hlinePending : v.linePending = true → (v.endOfLine c).linePending = true := by
    intro hp
    rw [Vdp.endOfLine_eq]
    exact Vdp.countdown_keeps_linePending hp
  simp only [Vdp.intLine, hreg, Bool.or_eq_true, Bool.and_eq_true] at h ⊢
  exact h.imp (And.imp_left hframe) (And.imp_left hlinePending)

theorem Vdp.intLine_endOfLines (n : Nat) {v : Vdp} (h : v.intLine = true) :
    (Vdp.endOfLines c n v).1.intLine = true := by
  induction n generalizing v with
  | zero => exact h
  | succ n ih => exact ih (Vdp.intLine_endOfLine c h)

theorem Vdp.intLine_update (n : Nat) {v : Vdp} (h : v.intLine = true) : (v.update c n).1.intLine = true := by
  unfold Vdp.update
  dsimp only
  split
  · exact h
  · exact Vdp.intLine_endOfLines c _ h

section Update
variable {c v} {t : Nat}

/-- Time short of a line only adds to HC (rule R460). -/
theorem Vdp.update_of_lt (h : v.hc + t < c.cyclesPerLine) : v.update c t = ({ v with hc := v.hc + t }, 0) := by
  rw [Vdp.update, if_neg (by omega), Nat.div_eq_of_lt h, Nat.mod_eq_of_lt h]
  rfl

/-- Enough time ends one line, and goes on with HC less one line (rule R460). -/
theorem Vdp.update_of_le (hc : 0 < c.cyclesPerLine) (h : c.cyclesPerLine ≤ v.hc + t) :
    v.update c t =
      let w := Vdp.endOfLine c { v with hc := v.hc + t - c.cyclesPerLine }
      ((w.update c 0).1, (w.update c 0).2 + (w.frameReady c).toNat) := by
  have due : (v.hc + t) / c.cyclesPerLine = (v.hc + t - c.cyclesPerLine) / c.cyclesPerLine + 1 :=
    Nat.div_eq_sub_div hc h
  simp only [Vdp.update, if_neg hc.ne', due, Nat.mod_eq_sub_mod h, Vdp.endOfLines, Nat.add_zero]
  rw [Vdp.endOfLine_setHc c v ((v.hc + t - c.cyclesPerLine) % c.cyclesPerLine),
    Vdp.endOfLine_setHc c v (v.hc + t - c.cyclesPerLine)]
  rfl

end Update

theorem Vdp.frameReady_toNat :
    (v.frameReady c).toNat = if v.line = c.activeHeight + 1 ∧ v.reg[1].getLsbD 6 = true then 1 else 0 := by
  rw [Vdp.frameReady, Vdp.displayEnabled, Bool.toNat, Bool.cond_eq_ite]
  simp only [Bool.and_eq_true, decide_eq_true_eq]

/-- Settles O26: the clock by HC's independence of a line's end, the line's end by its one equation. -/
theorem vdpLineTiming : Obligations.VdpLineTiming := by
  refine ⟨fun c t v hc => ⟨Vdp.update_of_lt, fun h => ?_⟩, fun c v => ?_⟩
  · rw [Vdp.update_of_le hc h]
    exact congrArg (Prod.mk _ <| _ + ·) (Vdp.frameReady_toNat c _)
  · rw [Vdp.endOfLine_eq]
    refine ⟨?frame, rfl, fun h h0 => ?reload, fun h h0 => ?down, fun h => ?inactive, ?pending, fun h => ?active,
      fun h => ?blank⟩
    case frame =>
      split
      · rw [Vdp.renderLine_eq]
        rfl
      · rfl
    case reload =>
      have e := Vdp.countdown_reload (ln := v.nextLine c) h h0
      exact ⟨congrArg Prod.fst e, congrArg Prod.snd e⟩
    case down =>
      have e := Vdp.countdown_down (ln := v.nextLine c) h h0
      refine ⟨?_, congrArg Prod.snd e⟩
      change (v.countdown c (v.nextLine c)).1.toNat = _
      rw [e]
      bv_omega
    case inactive =>
      have e := Vdp.countdown_inactive (v := v) (ln := v.nextLine c) h
      exact ⟨congrArg Prod.fst e, congrArg Prod.snd e⟩
    case pending => simp [Vdp.withClock, Vdp.framePendingAt]
    case active =>
      have active : v.nextLine c < c.activeHeight := h
      rw [if_pos active]
      exact ⟨rfl, rfl, rfl⟩
    case blank =>
      have inactive : ¬v.nextLine c < c.activeHeight := Nat.not_lt.2 h
      rw [if_neg inactive]
      exact ⟨rfl, rfl, rfl⟩

end Sys2Proof.Machine
end

section
/-! Acceptance of interrupts, idling and the control state (60_exceptions.md rules R410 to R418, 10_state.md rules R28
to R34). -/

namespace Sys2Proof.Machine

theorem State.nmiCond_of {s : State} (h : s.nmiReq = true)
    (hline : s.cfg.pauseSampleLine = none ∨ s.cfg.pauseSampleLine = some s.vCounter) : s.nmiCond = true := by
  rcases hline with hline | hline <;> simp [State.nmiCond, h, hline]

/-- Settles O6: the first branch of the step; the push is the one of rule R12. -/
theorem nmiAcceptance : Obligations.NmiAcceptance := by
  intro s hreq hline
  refine ⟨s.acceptNmi, step_of_nmi (State.nmiCond_of hreq hline), rfl, rfl, rfl, rfl, rfl, rfl, ?_, rfl,
    State.push16_storesWord s s.pc, State.changesOnly_of fun p hp => ?_⟩
  · change s.sp - 1#16 - 1#16 = _
    bv_omega
  · cases p
    case nmiReq | halted | eiPending | iff1 | iff2 | sp | pc | bus => simp at hp
    all_goals rfl

/-- Accepting a maskable interrupt, in every mode: only PC and the cost are left to the mode. -/
theorem State.changesOnly_accept (s : State) (pc : Word) (n : Nat) :
    s.changesOnly { s.accept false false with pc := pc, cost := n }
      [.halted, .eiPending, .iff1, .iff2, .sp, .pc, .bus] := by
  refine State.changesOnly_of fun p hp => ?_
  cases p
  case halted | eiPending | iff1 | iff2 | sp | pc | bus => simp at hp
  all_goals rfl

theorem State.accept_sp (s : State) (e e' : Bool) : (s.accept e e').sp = s.sp - 2#16 := by
  change s.sp - 1#16 - 1#16 = _
  bv_omega

/-- Settles O7: the second branch of the step, by mode. -/
theorem intAcceptance : Obligations.IntAcceptance := by
  intro s hn hiff hline
  have hi : s.intCond = true := by rw [State.intCond, hiff]; exact hline
  refine ⟨s.acceptInt, step_of_int hn hi, ?_⟩
  by_cases him : s.im = .im2
  · rw [State.acceptInt_of_im2 him]
    exact ⟨rfl, rfl, rfl, rfl, s.accept_sp false false, State.push16_storesWord s s.pc,
      fun _ => ⟨rfl, mkWord_toNat _ _⟩, fun h => absurd him h, s.changesOnly_accept _ _⟩
  · rw [State.acceptInt_of_ne_im2 him]
    exact ⟨rfl, rfl, rfl, rfl, s.accept_sp false false, State.push16_storesWord s s.pc,
      fun h => absurd h him, fun _ => ⟨rfl, rfl⟩, s.changesOnly_accept _ _⟩

/-- Settles O8: the first branch of the step clears IFF1, and the line stays high on its level. -/
theorem interruptPriority : Obligations.InterruptPriority := by
  intro s hn hi
  obtain ⟨hiff, hline⟩ : s.iff1 = true ∧ s.vdp.intLine = true := by
    simpa [State.intCond, State.intLine] using hi
  exact ⟨_, step_of_nmi hn, rfl, rfl, rfl, hiff, Vdp.intLine_update _ _ hline, rfl⟩

/-- Settles O9: the third branch of the step, and the devices' update as one equation. -/
theorem haltedIdle : Obligations.HaltedIdle := by
  refine ⟨fun s hn hi hh => ⟨s.haltedIdle, step_of_idle hn hi hh, rfl, ?_⟩, fun s => ⟨?_, rfl, rfl, rfl⟩⟩
  · exact State.changesOnly_of fun p _ => by cases p <;> rfl
  · refine State.changesOnly_of fun p hp => ?_
    cases p
    case psg | vdp | notices => simp at hp
    all_goals rfl

/-! The control state (10_state.md rules R28 to R34): which effects write it. -/

/-- The control state is the same in `t` as in `s`, and so are the parameters. -/
structure State.SameControl (s t : State) : Prop where
  nmiReq : t.nmiReq = s.nmiReq
  cfg : t.cfg = s.cfg
  im : t.im = s.im
  i : t.i = s.i
  r : t.r = s.r
  halted : t.halted = s.halted
  eiPending : t.eiPending = s.eiPending
  iff2 : t.iff2 = s.iff2
  iff1 : t.iff1 = s.iff1

theorem State.SameControl.trans {s t u : State} (h : s.SameControl t) (k : t.SameControl u) : s.SameControl u :=
  ⟨k.1.trans h.1, k.2.trans h.2, k.3.trans h.3, k.4.trans h.4, k.5.trans h.5, k.6.trans h.6, k.7.trans h.7,
    k.8.trans h.8, k.9.trans h.9⟩

theorem State.SameControl.ioRead (s : State) (port : Byte) : s.SameControl (s.ioRead port).2 := by
  unfold State.ioRead
  split
  · constructor <;> rfl
  · split <;> constructor <;> rfl
  · split <;> constructor <;> rfl
  · split <;> constructor <;> rfl

theorem State.SameControl.ioWrite (s : State) (port v : Byte) : s.SameControl (s.ioWrite port v) := by
  unfold State.ioWrite
  split
  · constructor <;> rfl
  · split <;> constructor <;> rfl
  · constructor <;> rfl

theorem State.SameControl.inputUnit (s : State) (step : Word) : s.SameControl (s.inputUnit step) :=
  (State.SameControl.ioRead s s.main.c).trans ⟨rfl, rfl, rfl, rfl, rfl, rfl, rfl, rfl, rfl⟩

theorem State.SameControl.outputUnit (s : State) (step : Word) : s.SameControl (s.outputUnit step) :=
  (show s.SameControl (s.setReg .b (s.main.b - 1#8)) from ⟨rfl, rfl, rfl, rfl, rfl, rfl, rfl, rfl, rfl⟩).trans <|
    (State.SameControl.ioWrite _ s.main.c (s.memRead s.main.hl)).trans ⟨rfl, rfl, rfl, rfl, rfl, rfl, rfl, rfl, rfl⟩

/-- Where the answer is a next state, it has the control state of `s`. -/
def Result.SameControlFrom (s : State) (r : Result State) : Prop := ∀ t, r = .next t → s.SameControl t

theorem sameControlFrom_done {s t : State} (n : Nat) (h : s.SameControl t) : Result.SameControlFrom s (done n t) := by
  intro u hu
  cases hu
  exact h.trans ⟨rfl, rfl, rfl, rfl, rfl, rfl, rfl, rfl, rfl⟩

theorem sameControlFrom_ite {s : State} {c : Prop} [Decidable c] {r r' : Result State}
    (h : Result.SameControlFrom s r) (h' : Result.SameControlFrom s r') :
    Result.SameControlFrom s (if c then r else r') := by
  split
  · exact h
  · exact h'

theorem sameControlFrom_repeatWhile {s t : State} {more : State → Bool} (h : s.SameControl t) :
    Result.SameControlFrom s (t.repeatWhile more) :=
  sameControlFrom_ite (sameControlFrom_done 21 (h.trans ⟨rfl, rfl, rfl, rfl, rfl, rfl, rfl, rfl, rfl⟩))
    (sameControlFrom_done 16 h)

/-- The instructions that write the control state. -/
def writesControl : Instr → Prop
  | .im0 | .im1 | .im2 | .im1Dup | .im2Dup | .im0Dup _ | .ldIA | .ldRA | .halt _ | .ei _ | .di _ | .undefinedED _
  | .reti | .retn | .retnDup _ => True
  | _ => False

theorem exec_sameControl {i : Instr} (hi : ¬writesControl i) (s : State) : Result.SameControlFrom s (exec i s) := by
  cases i
  case im0 | im1 | im2 | im1Dup | im2Dup | im0Dup | ldIA | ldRA | halt | ei | di | undefinedED | reti | retn
      | retnDup => exact absurd trivial hi
  case jrCC | djnz | retCC | callCC =>
    exact sameControlFrom_ite (sameControlFrom_done _ ⟨rfl, rfl, rfl, rfl, rfl, rfl, rfl, rfl, rfl⟩)
      (sameControlFrom_done _ ⟨rfl, rfl, rfl, rfl, rfl, rfl, rfl, rfl, rfl⟩)
  case jpCC px cc nn =>
    refine sameControlFrom_done _ ?_
    split <;> constructor <;> rfl
  case ldRpNN _ rp _ | incRp _ rp | decRp _ rp | ldRpMNN rp _ =>
    cases rp <;> exact sameControlFrom_done _ ⟨rfl, rfl, rfl, rfl, rfl, rfl, rfl, rfl, rfl⟩
  case popRp2 _ q => cases q <;> exact sameControlFrom_done _ ⟨rfl, rfl, rfl, rfl, rfl, rfl, rfl, rfl, rfl⟩
  case incIXHalf h | decIXHalf h | ldIXHalfN h _ | incIYHalf h | decIYHalf h | ldIYHalfN h _ =>
    cases h <;> exact sameControlFrom_done _ ⟨rfl, rfl, rfl, rfl, rfl, rfl, rfl, rfl, rfl⟩
  case ldPP dst _ | ldQQ dst _ =>
    cases dst <;> exact sameControlFrom_done _ ⟨rfl, rfl, rfl, rfl, rfl, rfl, rfl, rfl, rfl⟩
  case inAN _ n =>
    exact sameControlFrom_done _ ((State.SameControl.ioRead s n).trans
      ⟨rfl, rfl, rfl, rfl, rfl, rfl, rfl, rfl, rfl⟩)
  case inRC | inC =>
    exact sameControlFrom_done _ ((State.SameControl.ioRead s s.main.c).trans
      ⟨rfl, rfl, rfl, rfl, rfl, rfl, rfl, rfl, rfl⟩)
  case outNA | outCR | outC0 => exact sameControlFrom_done _ (.ioWrite s _ _)
  case ini | ind => exact sameControlFrom_done _ (.inputUnit s _)
  case outi | outd => exact sameControlFrom_done _ (.outputUnit s _)
  case inir => exact exec_inir s ▸ sameControlFrom_repeatWhile (.inputUnit s _)
  case indr => exact exec_indr s ▸ sameControlFrom_repeatWhile (.inputUnit s _)
  case otir => exact exec_otir s ▸ sameControlFrom_repeatWhile (.outputUnit s _)
  case otdr => exact exec_otdr s ▸ sameControlFrom_repeatWhile (.outputUnit s _)
  case ldir => exact exec_ldir s ▸ sameControlFrom_repeatWhile ⟨rfl, rfl, rfl, rfl, rfl, rfl, rfl, rfl, rfl⟩
  case lddr => exact exec_lddr s ▸ sameControlFrom_repeatWhile ⟨rfl, rfl, rfl, rfl, rfl, rfl, rfl, rfl, rfl⟩
  case cpir => exact exec_cpir s ▸ sameControlFrom_repeatWhile ⟨rfl, rfl, rfl, rfl, rfl, rfl, rfl, rfl, rfl⟩
  case cpdr => exact exec_cpdr s ▸ sameControlFrom_repeatWhile ⟨rfl, rfl, rfl, rfl, rfl, rfl, rfl, rfl, rfl⟩
  all_goals
    cases s
    exact sameControlFrom_done _ ⟨rfl, rfl, rfl, rfl, rfl, rfl, rfl, rfl, rfl⟩

/-- Settles O12: an effect that writes no control state has nothing to show; each of the others is looked at. -/
theorem controlStateWriters : Obligations.ControlStateWriters := by
  intro i s t h
  by_cases hi : writesControl i
  · cases i
    case im0 | im1 | im2 | im1Dup | im2Dup | im0Dup | ldIA | ldRA | halt | ei | di | reti | retn | retnDup =>
      cases h
      simp [State.returnFromInterrupt, State.pop16_snd]
    case undefinedED op =>
      cases hc : s.cfg.edUndefined
      · rw [exec_undefinedED_nop op hc] at h
        cases h
        simp
      · rw [exec_undefinedED_sourceNoni op hc] at h
        cases h
        simp
    all_goals exact absurd hi id
  · have same := exec_sameControl hi s t h
    exact ⟨same.nmiReq, same.cfg, fun h => absurd same.im h, fun h => absurd same.i h, fun h => absurd same.r h,
      fun h => absurd same.halted h, fun h => absurd same.eiPending h, fun h => absurd same.iff2 h,
      fun h => absurd same.iff1 h⟩

end Sys2Proof.Machine
end

section
/-! The deferred enable and the refresh counter over whole steps (10_state.md rules R29, R33, 60_exceptions.md rule
R413). -/

namespace Sys2Proof.Machine

/-- A step with no interrupt to accept and not halted is the effect of the instruction fetched, and what ends it. -/
theorem step_exec_inv {s t : State} (hn : s.nmiCond = false) (hi : s.intCond = false) (hh : s.halted = false)
    (h : step s = .next t) : ∃ u, exec s.fetch (s.beginInstr s.fetch.size) = .next u ∧
      t = (u.endInstr s.eiPending).updateDevices := by
  obtain ⟨u, hu⟩ := exec_total s.fetch (s.beginInstr s.fetch.size)
  refine ⟨u, hu, ?_⟩
  rw [step_of_exec hn hi hh hu] at h
  cases h
  rfl

theorem State.eiPending_acceptInt (s : State) : s.acceptInt.eiPending = false := by
  by_cases him : s.im = .im2
  · rw [State.acceptInt_of_im2 him]
    rfl
  · rw [State.acceptInt_of_ne_im2 him]
    rfl

theorem State.r_acceptInt (s : State) : s.acceptInt.r = s.r := by
  by_cases him : s.im = .im2
  · rw [State.acceptInt_of_im2 him]
    rfl
  · rw [State.acceptInt_of_ne_im2 him]
    rfl

/-- Settles O10: the pending enable lands after the effect, and only the two requests set it again. -/
theorem eiLatency : Obligations.EiLatency := by
  refine ⟨fun s px => ⟨_, rfl, rfl, rfl, ?_⟩, fun s t hn hi hh hp h => ?_, fun s t hn hi hh h hp => ?_,
    fun s t hc h => ?_⟩
  · refine State.changesOnly_of fun p hp => ?_
    cases p
    case eiPending => simp at hp
    all_goals rfl
  · obtain ⟨u, -, rfl⟩ := step_exec_inv hn hi hh h
    exact ⟨by simp [State.updateDevices_eq, hp], by simp [State.updateDevices_eq, hp]⟩
  · obtain ⟨u, hu, rfl⟩ := step_exec_inv hn hi hh h
    obtain ⟨-, -, -, -, -, -, pending, -, -⟩ := controlStateWriters _ _ _ hu
    exact pending fun same => Bool.false_ne_true (same.symm.trans hp)
  · rcases step_cases h with ⟨-, rfl⟩ | ⟨-, -, rfl⟩ | ⟨hn, hi, -⟩ | ⟨hn, hi, -⟩
    · rfl
    · exact s.eiPending_acceptInt
    · simp [hn, hi] at hc
    · simp [hn, hi] at hc

theorem nextR_toNat_mod (r : Byte) : (nextR r).toNat % 128 = (r.toNat % 128 + 1) % 128 := by
  revert r
  decide

theorem nextR_top (r : Byte) : (nextR r).getLsbD 7 = r.getLsbD 7 := by
  revert r
  decide

/-- Settles O11: an effect other than that of `LD R,A` leaves R, and the step's end counts it. -/
theorem refreshCounter : Obligations.RefreshCounter := by
  intro s t h
  refine ⟨fun hc => ?_, fun hn hi hh => ?_⟩
  · rcases step_cases h with ⟨-, rfl⟩ | ⟨-, -, rfl⟩ | ⟨-, -, -, rfl⟩ | ⟨hn, hi, hh, -⟩
    · rfl
    · exact s.r_acceptInt
    · rfl
    · simp [hn, hi, hh] at hc
  · obtain ⟨u, hu, rfl⟩ := step_exec_inv hn hi hh h
    have counted : ((u.endInstr s.eiPending).updateDevices).r = nextR u.r := rfl
    rw [counted, nextR_toNat_mod, nextR_top]
    refine ⟨fun hne => ?_, fun he => ?_, fun he => ?_⟩
    · obtain ⟨-, -, -, -, hr, -⟩ := controlStateWriters _ _ _ hu
      have same : u.r = s.r := by_contra fun ne => hne (hr ne)
      rw [same]
      exact ⟨rfl, rfl⟩
    · rw [he] at hu
      cases hu
      exact ⟨rfl, rfl⟩
    · rw [he] at hu
      cases hu
      rfl

end Sys2Proof.Machine
end

section
/-! Construction and reset (20_memory.md rule R70, 70_reset_and_hazards.md rules R520, R521), and the V-counter
(60_exceptions.md rule R464). -/

namespace Sys2Proof.Machine

/-! Construction. -/

theorem construct_refused {image : List Byte} (c : Config) (d : PowerUp)
    (h : (stripImage image).length = 0 ∨ (stripImage image).length % 16384 ≠ 0) :
    construct image c d = .refused .cartridgeRejected := by
  rw [construct, if_pos h]

theorem construct_next {image : List Byte} (c : Config) (d : PowerUp) (h : (stripImage image).length ≠ 0)
    (h' : (stripImage image).length % 16384 = 0) :
    construct image c d = .next { d.apply c with bus := { (d.apply c).bus with
      rom := Memory.ofBytes .rom 0 (stripImage image), pageCount := (stripImage image).length / 16384 } } := by
  rw [construct, if_neg (by simp [h, h'])]

/-- A default equal to every entry is what every index gives. -/
theorem vector_getD_replicate {α : Type} (n k : Nat) (x : α) : (Vector.replicate n x).getD k x = x := by
  simp only [Vector.getD, Array.getD_eq_getD_getElem?, Vector.replicate, Array.getElem?_replicate]
  split <;> rfl

/-- Settles O15: the two branches of the construction; the stores that start uniform read as their one value. -/
theorem construction : Obligations.Construction := by
  intro image c d
  refine ⟨construct_refused c d, fun h h' => ⟨_, construct_next c d h h', ?_⟩⟩
  have pages : (stripImage image).length / 16384 * 16384 = (stripImage image).length :=
    Nat.div_mul_cancel (Nat.dvd_of_mod_eq_zero h')
  have rom (k : Nat) (v : Byte) (hk : (stripImage image)[k]? = some v) :
      Memory.read .rom (Memory.ofBytes .rom 0 (stripImage image)) k = v := by
    have hr := Memory.read_ofBytes .rom (stripImage image) 0 k
    rw [Nat.zero_add] at hr
    rw [hr, List.getD_eq_getElem?_getD, hk]
    rfl
  exact ⟨pages, rom, rfl, rfl, rfl, rfl, rfl, rfl, rfl, rfl, rfl, rfl, rfl, rfl, rfl, rfl, rfl, rfl, rfl, rfl, rfl, rfl,
    rfl, fun _ => rfl, fun k => vector_getD_replicate 11 k _, rfl, rfl, rfl, rfl, rfl, rfl, rfl, rfl, rfl, rfl, rfl,
    rfl, rfl, rfl, rfl, fun k => vector_getD_replicate 3 k _, rfl, fun k => vector_getD_replicate 4 k _, rfl, rfl, rfl,
    rfl, rfl, fun k => vector_getD_replicate 4 k _, fun k => vector_getD_replicate 4 k _, rfl⟩

/-- Bytes that all read as unlisted ones are not listed. -/
theorem Memory.ofBytes_replicate_unlisted (st : Store) (n a : Nat) :
    Memory.ofBytes st a (List.replicate n (unlisted st)) = [] := by
  induction n generalizing a with
  | zero => rfl
  | succ n ih => rw [List.replicate_succ, Memory.ofBytes, if_pos rfl, ih]

/-- Settles O14: a page of zeros lists nothing, which is what the reset state holds. -/
theorem resetLegal : Obligations.ResetLegal := by
  refine ⟨by decide, ?_⟩
  have unstripped : stripImage (List.replicate 16384 0x00#8) = List.replicate 16384 (unlisted .rom) := by
    rw [stripImage, List.length_replicate, if_neg (by decide)]
    rfl
  rw [construct_next _ _ (by rw [unstripped, List.length_replicate]; decide)
    (by rw [unstripped, List.length_replicate]), unstripped, Memory.ofBytes_replicate_unlisted, List.length_replicate]
  rfl

/-- Settles O25: the admitted parameters bound both pieces of the sequence, and close it at 0xFF. -/
theorem vCounterSequence : Obligations.VCounterSequence := by
  refine ⟨by decide, by decide, fun c line hc hl => ?_⟩
  obtain ⟨hfrom, hto, hframe⟩ : c.vJumpFrom ≤ 0xFF ∧ c.vJumpTo ≤ 0xFF ∧
      (c.vJumpFrom + 1) + (0x100 - c.vJumpTo) = c.linesPerFrame := by
    simp only [Config.wf, Bool.and_eq_true, decide_eq_true_eq] at hc
    omega
  refine ⟨fun h => ?_, fun h => ?_, fun h hlast => ?_, ?_⟩
  · rw [vCount, if_pos h, BitVec.toNat_ofNat]
    omega
  · rw [vCount, if_neg (by omega), BitVec.toNat_ofNat]
    omega
  · apply BitVec.eq_of_toNat_eq
    rw [vCount, if_neg (by omega), BitVec.toNat_ofNat, BitVec.toNat_ofNat]
    omega
  · rw [vCount, if_pos (Nat.zero_le _)]

end Sys2Proof.Machine
end

section
/-! The memory map by ranges (20_memory.md rules R62 to R67, R74). -/

namespace Sys2Proof.Machine

/-! Which cell an address selects, range by range (rule R62). -/

section Ranges
variable (b : Bus) {a : Word}

theorem Bus.locate_boot (h : a.toNat < 0x400) : b.locate a = .rom a.toNat := if_pos h

theorem Bus.locate_frame0 (h : 0x400 ≤ a.toNat) (h' : a.toNat < 0x4000) :
    b.locate a = .rom (b.page0.toNat % b.pageCount * 0x4000 + a.toNat) := by
  simp only [Bus.locate]
  rw [if_neg (by omega), if_pos h']
  rfl

theorem Bus.locate_frame1 (h : 0x4000 ≤ a.toNat) (h' : a.toNat < 0x8000) :
    b.locate a = .rom (b.page1.toNat % b.pageCount * 0x4000 + (a.toNat - 0x4000)) := by
  simp only [Bus.locate]
  rw [if_neg (by omega), if_neg (by omega), if_pos h']
  rfl

theorem Bus.locate_frame2 (h : 0x8000 ≤ a.toNat) (h' : a.toNat < 0xC000) :
    b.locate a = if b.ctrl.getLsbD 3 = true then .cartRam ((b.ctrl.getLsbD 2).toNat * 0x4000 + (a.toNat - 0x8000))
      else .rom (b.page2.toNat % b.pageCount * 0x4000 + (a.toNat - 0x8000)) := by
  simp only [Bus.locate]
  rw [if_neg (by omega), if_neg (by omega), if_neg (by omega), if_pos h']
  rfl

theorem Bus.locate_frame2_ram (h : 0x8000 ≤ a.toNat) (h' : a.toNat < 0xC000) (hen : b.ctrl.getLsbD 3 = true) :
    b.locate a = .cartRam ((b.ctrl.getLsbD 2).toNat * 0x4000 + (a.toNat - 0x8000)) := by
  rw [b.locate_frame2 h h', if_pos hen]

theorem Bus.locate_frame2_rom (h : 0x8000 ≤ a.toNat) (h' : a.toNat < 0xC000) (hen : b.ctrl.getLsbD 3 = false) :
    b.locate a = .rom (b.page2.toNat % b.pageCount * 0x4000 + (a.toNat - 0x8000)) := by
  rw [b.locate_frame2 h h', hen]
  rfl

theorem Bus.locate_eq_cartRam_iff (off : Nat) : b.locate a = .cartRam off ↔
    0x8000 ≤ a.toNat ∧ a.toNat < 0xC000 ∧ b.ctrl.getLsbD 3 = true ∧
      off = (b.ctrl.getLsbD 2).toNat * 0x4000 + (a.toNat - 0x8000) := by
  simp only [Bus.locate, Bus.ramEnabled, Bus.ramPage]
  split_ifs <;> simp_all <;> omega

theorem Bus.locate_eq_ctrl_iff : b.locate a = .ctrl ↔ a = 0xFFFC#16 := by
  simp only [Bus.locate, ← BitVec.toNat_inj, BitVec.toNat_ofNat]
  split_ifs <;> simp <;> omega

theorem Bus.locate_eq_page0_iff : b.locate a = .page0 ↔ a = 0xFFFD#16 := by
  simp only [Bus.locate, ← BitVec.toNat_inj, BitVec.toNat_ofNat]
  split_ifs <;> simp <;> omega

theorem Bus.locate_eq_page1_iff : b.locate a = .page1 ↔ a = 0xFFFE#16 := by
  simp only [Bus.locate, ← BitVec.toNat_inj, BitVec.toNat_ofNat]
  split_ifs <;> simp <;> omega

theorem Bus.locate_eq_page2_iff : b.locate a = .page2 ↔ a = 0xFFFF#16 := by
  have := a.isLt
  simp only [Bus.locate, ← BitVec.toNat_inj, BitVec.toNat_ofNat]
  split_ifs <;> simp <;> omega

end Ranges

/-- Settles O16: a read gives what the cell holds that the address selects. -/
theorem memoryReadMap : Obligations.MemoryReadMap := by
  intro s a
  have read {l : Loc} (h : s.bus.locate a = l) : s.memRead a = s.bus.load l := congrArg s.bus.load h
  exact ⟨fun h => read (s.bus.locate_boot h), fun h h' => read (s.bus.locate_frame0 h h'),
    fun h h' => read (s.bus.locate_frame1 h h'), fun h h' hen => read (s.bus.locate_frame2_ram h h' hen),
    fun h h' hen => read (s.bus.locate_frame2_rom h h' hen),
    fun h h' => read ((s.bus.locate_eq_sysRam_iff a _).2 (by omega)),
    fun h h' => read ((s.bus.locate_eq_sysRam_iff a _).2 (by omega)),
    fun h => read (s.bus.locate_eq_ctrl_iff.2 h), fun h => read (s.bus.locate_eq_page0_iff.2 h),
    fun h => read (s.bus.locate_eq_page1_iff.2 h), fun h => read (s.bus.locate_eq_page2_iff.2 h)⟩

/-- What a cell outside ROM holds after a write (rule R63). -/
theorem Bus.load_write_of_not_rom (b : Bus) (a : Word) (v : Byte) {l : Loc} (hl : l.isRom = false) :
    (b.write a v).load l = if b.locate a = l then v else b.load l := by
  rw [Bus.write, Bus.load_store]
  by_cases h : b.locate a = l
  · rw [if_pos h, if_pos ⟨h.symm, h ▸ hl⟩]
  · rw [if_neg h, if_neg fun e => h e.1.symm]

/-- Settles O17: what each cell holds after a write. -/
theorem memoryWriteMap : Obligations.MemoryWriteMap := by
  intro s a v
  refine ⟨State.changesOnly_of fun p hp => ?_, rfl, Bus.write_rom .., Bus.write_latch .., Bus.write_pageCount ..,
    ?_, ?_, ?_, ?_, fun off => ?_, fun off => ?_⟩
  · cases p
    case bus => simp at hp
    all_goals rfl
  · exact (s.bus.load_write_of_not_rom a v (l := .ctrl) rfl).trans (by simp only [Bus.locate_eq_ctrl_iff]; rfl)
  · exact (s.bus.load_write_of_not_rom a v (l := .page0) rfl).trans (by simp only [Bus.locate_eq_page0_iff]; rfl)
  · exact (s.bus.load_write_of_not_rom a v (l := .page1) rfl).trans (by simp only [Bus.locate_eq_page1_iff]; rfl)
  · exact (s.bus.load_write_of_not_rom a v (l := .page2) rfl).trans (by simp only [Bus.locate_eq_page2_iff]; rfl)
  · exact (s.bus.load_write_of_not_rom a v (l := .cartRam off) rfl).trans
      (by simp only [Bus.locate_eq_cartRam_iff]; rfl)
  · refine (s.bus.load_write_of_not_rom a v (l := .sysRam off) rfl).trans ?_
    simp only [Bus.locate_eq_sysRam_iff]
    refine if_congr ?_ rfl rfl
    omega

/-! The control byte (rule R67). -/

/-- Only RAM_EN and RAM_PAGE of the control byte have to do with the map. -/
theorem Bus.locate_setCtrl (b : Bus) {k c : Byte} (h3 : k.getLsbD 3 = c.getLsbD 3) (h2 : k.getLsbD 2 = c.getLsbD 2)
    (y : Word) : Bus.locate { b with ctrl := k } y = Bus.locate { b with ctrl := c } y := by
  simp only [Bus.locate, Bus.ramEnabled, Bus.ramPage, h3, h2]
  rfl

theorem Bus.load_setCtrl (b : Bus) (k c : Byte) {l : Loc} (hl : l ≠ .ctrl) :
    Bus.load { b with ctrl := k } l = Bus.load { b with ctrl := c } l := by
  cases l
  case ctrl => exact absurd rfl hl
  all_goals rfl

/-- Settles O19: frame 2 by its two cases of the map. -/
theorem cartridgeRam : Obligations.CartridgeRam := by
  intro s x v p c h h' off
  refine ⟨fun hen => ?enabled, fun hen => ?disabled, rfl, rfl, fun k y h3 h2 hy => ?otherBits⟩
  case enabled =>
    have selects {b : Bus} (h3 : b.ctrl.getLsbD 3 = true) (h2 : b.ctrl.getLsbD 2 = s.bus.ctrl.getLsbD 2) :
        b.locate x = .cartRam off := by rw [b.locate_frame2_ram h h' h3, h2]
    have stored : Memory.read .cartRam (s.memWrite x v).bus.cartRam off = v :=
      (s.bus.load_write_of_not_rom x v (l := .cartRam off) rfl).trans (if_pos (selects hen rfl))
    have keeps : (s.memWrite x v).bus.ctrl = s.bus.ctrl :=
      (s.bus.load_write_of_not_rom x v (l := .ctrl) rfl).trans (if_neg (by rw [selects hen rfl]; simp))
    have reads {b : Bus} (h3 : b.ctrl.getLsbD 3 = true) (h2 : b.ctrl.getLsbD 2 = s.bus.ctrl.getLsbD 2) :
        b.read x = Memory.read .cartRam b.cartRam off := congrArg b.load (selects h3 h2)
    exact ⟨reads hen rfl, stored, (reads (keeps ▸ hen) (by rw [keeps])).trans stored,
      (reads (b := { s.bus with page2 := p }) hen rfl).trans (reads hen rfl).symm, rfl,
      fun k h3 h2 => (reads (b := { (s.memWrite x v).bus with ctrl := k }) h3 h2).trans stored⟩
  case disabled =>
    refine ⟨?_, congrArg (Bus.load _) (Bus.locate_frame2_rom { s.bus with page2 := p } h h' hen)⟩
    change { s with bus := s.bus.store (s.bus.locate x) v } = s
    rw [s.bus.locate_frame2_rom h h' hen]
    rfl
  case otherBits =>
    change Bus.load { s.bus with ctrl := k } (Bus.locate { s.bus with ctrl := k } y) =
      Bus.load { s.bus with ctrl := c } (Bus.locate { s.bus with ctrl := c } y)
    rw [Bus.locate_setCtrl _ h3 h2]
    exact Bus.load_setCtrl _ _ _ fun e => hy ((Bus.locate_eq_ctrl_iff _).1 e)

/-- Settles O20: both orders of the two byte stores are the same store of a word, and 0xFFFB stands before CTRL. -/
theorem wideStore : Obligations.WideStore := by
  refine ⟨fun s a v => ⟨rfl, s.memWrite16_storesWord a v, Bus.write_high_low ..⟩, fun s => ⟨?_, rfl⟩⟩
  change Memory.read .sysRam (Memory.write .sysRam s.bus.sysRam 0x1FFB (loByte 0x0908#16)) 0x1FFB = _
  rw [Memory.read_write_self]
  rfl

end Sys2Proof.Machine
end

section
/-! The ports (20_memory.md rules R80, R81) and the VDP behind them (60_exceptions.md rules R452 to R461). -/

namespace Sys2Proof.Machine

/-! The port map. -/

/-- The top two bits of a port number. -/
theorem port_block (port : Byte) : (port.extractLsb' 6 2).toNat = port.toNat / 64 := by
  have := port.isLt
  rw [BitVec.extractLsb'_toNat, Nat.shiftRight_eq_div_pow]
  omega

/-- The bottom bit of a port number. -/
theorem port_parity (port : Byte) : port.getLsbD 0 = decide (port.toNat % 2 = 1) := Nat.testBit_zero _

section PortMap
variable (s : State) {port : Byte} (v : Byte)

theorem State.ioRead_block0 (h : port.toNat < 64) : s.ioRead port = (0xFF#8, s) := by
  have block : port.toNat / 64 = 0 := by omega
  simp only [State.ioRead, port_block, block]
  rfl

theorem State.ioRead_block1 (h : 64 ≤ port.toNat) (h' : port.toNat < 128) :
    s.ioRead port = if port.toNat % 2 = 1 then (Config.hCount s.vdp.hc, s) else (vCount s.cfg s.vdp.line, s) := by
  have block : port.toNat / 64 = 1 := by omega
  simp only [State.ioRead, port_block, block, port_parity, decide_eq_true_eq]
  rfl

theorem State.ioRead_block2_even (h : 128 ≤ port.toNat) (h' : port.toNat < 192) (even : port.toNat % 2 = 0) :
    s.ioRead port = (s.vdp.dataRead.1, { s with vdp := s.vdp.dataRead.2 }) := by
  have block : port.toNat / 64 = 2 := by omega
  simp only [State.ioRead, port_block, block, port_parity, even]
  rfl

theorem State.ioRead_block2_odd (h : 128 ≤ port.toNat) (h' : port.toNat < 192) (odd : port.toNat % 2 = 1) :
    s.ioRead port = ((s.vdp.statusRead (s.draw.1.extractLsb' 0 5)).1,
      { s with draws := s.draws + 1, vdp := (s.vdp.statusRead (s.draw.1.extractLsb' 0 5)).2 }) := by
  have block : port.toNat / 64 = 2 := by omega
  simp only [State.ioRead, port_block, block, port_parity, odd]
  rfl

theorem State.ioRead_block3 (h : 192 ≤ port.toNat) : s.ioRead port =
    if port = 0xDC#8 ∨ port = 0xDD#8 then (Memory.read .latch s.bus.latch port.toNat, s) else (0xFF#8, s) := by
  have block : port.toNat / 64 = 3 := by omega
  simp only [State.ioRead, port_block, block]
  rfl

theorem State.ioWrite_block1 (h : 64 ≤ port.toNat) (h' : port.toNat < 128) :
    s.ioWrite port v = { s with psg := s.psg.write v } := by
  have block : port.toNat / 64 = 1 := by omega
  simp only [State.ioWrite, port_block, block]

theorem State.ioWrite_block2 (h : 128 ≤ port.toNat) (h' : port.toNat < 192) : s.ioWrite port v =
    { s with vdp := if port.toNat % 2 = 1 then s.vdp.controlWrite v else s.vdp.dataWrite v } := by
  have block : port.toNat / 64 = 2 := by omega
  simp only [State.ioWrite, port_block, block, port_parity, decide_eq_true_eq]
  split <;> rfl

theorem State.ioWrite_latch (h : port.toNat < 64 ∨ 192 ≤ port.toNat) : s.ioWrite port v =
    { s with bus := { s.bus with latch := Memory.write .latch s.bus.latch port.toNat v } } := by
  have := port.isLt
  have block : port.toNat / 64 = 0 ∨ port.toNat / 64 = 3 := by omega
  rcases block with block | block <;> simp only [State.ioWrite, port_block, block]

end PortMap

/-- Settles O21: each block of ports by its equation. -/
theorem portMap : Obligations.PortMap := by
  refine ⟨fun s port => ⟨s.ioRead_block0, fun h h' even => ?_, fun h h' odd => ?_, s.ioRead_block2_even,
    fun h h' odd => ⟨_, s.ioRead_block2_odd h h' odd⟩, fun h => ?_, fun h hc hd => ?_⟩, fun s port v =>
    ⟨s.ioWrite_block1 v, fun h h' even => ?_, fun h h' odd => ?_, fun h => ?_⟩⟩
  · rw [s.ioRead_block1 h h', if_neg (by omega)]
  · rw [s.ioRead_block1 h h', if_pos odd]
  · have high : 192 ≤ port.toNat := by rcases h with rfl | rfl <;> decide
    rw [s.ioRead_block3 high, if_pos h]
  · rw [s.ioRead_block3 h, if_neg (not_or.2 ⟨hc, hd⟩)]
  · rw [s.ioWrite_block2 v h h', if_neg (by omega)]
  · rw [s.ioWrite_block2 v h h', if_pos odd]
  · rw [s.ioWrite_latch v h]
    exact ⟨rfl, fun q => Memory.read_write .latch s.bus.latch port.toNat q v⟩

/-! The VDP's ports. -/

/-- Two fields side by side, as numbers. -/
theorem toNat_append_eq_add {m n : Nat} (x : BitVec m) (y : BitVec n) : (x ++ y).toNat = x.toNat * 2 ^ n + y.toNat := by
  rw [BitVec.toNat_append, ← Nat.shiftLeft_add_eq_or_of_lt y.isLt, Nat.shiftLeft_eq]

/-- The address of a second control byte (rule R452). -/
theorem controlAddr_toNat (v : Vdp) (w : Byte) :
    (w.extractLsb' 0 6 ++ v.addr.extractLsb' 0 8).toNat = w.toNat % 64 * 256 + v.addr.toNat % 256 := by
  rw [toNat_append_eq_add, BitVec.extractLsb'_toNat, BitVec.extractLsb'_toNat]
  rfl

theorem controlCode_toNat (w : Byte) : (w.extractLsb' 6 2).toNat = w.toNat / 64 := port_block w

theorem controlCode_eq_iff (w : Byte) (k : Nat) (hk : k < 4) :
    w.extractLsb' 6 2 = BitVec.ofNat 2 k ↔ w.toNat / 64 = k := by
  rw [← controlCode_toNat, ← BitVec.toNat_inj, BitVec.toNat_ofNat, Nat.mod_eq_of_lt hk]

section Control
variable {v : Vdp} (w : Byte)

theorem Vdp.controlWrite_first (h : v.second = false) :
    v.controlWrite w = { v with addr := v.addr.extractLsb' 8 6 ++ w, second := true } := by
  rw [Vdp.controlWrite, h]
  rfl

/-- What the second byte of a pair does in every code, before the code's own effect (rule R452). -/
def Vdp.controlSecond (v : Vdp) (w : Byte) : Vdp :=
  { v with addr := w.extractLsb' 0 6 ++ v.addr.extractLsb' 0 8, code := w.extractLsb' 6 2, second := false }

theorem Vdp.controlWrite_read (h : v.second = true) (code : w.toNat / 64 = 0) :
    v.controlWrite w = (v.controlSecond w).prime := by
  rw [Vdp.controlWrite, h, if_pos rfl]
  exact if_pos ((controlCode_eq_iff w 0 (by decide)).2 code)

theorem Vdp.controlWrite_register (h : v.second = true) (code : w.toNat / 64 = 2) (index : w.toNat % 16 < 11) :
    v.controlWrite w = { v.controlSecond w with
      reg := v.reg.setIfInBounds (w.toNat % 16) ((v.controlSecond w).addr.extractLsb' 0 8) } := by
  have number : (w.extractLsb' 0 4).toNat = w.toNat % 16 := BitVec.extractLsb'_toNat ..
  have two : w.extractLsb' 6 2 = 2#2 := (controlCode_eq_iff w 2 (by decide)).2 code
  rw [Vdp.controlWrite, h, if_pos rfl, number, two]
  dsimp only
  rw [if_neg (by decide), if_pos (by simp [index]), ← two]
  rfl

theorem Vdp.controlWrite_plain (h : v.second = true) (code : w.toNat / 64 ≠ 0)
    (noRegister : ¬(w.toNat / 64 = 2 ∧ w.toNat % 16 < 11)) : v.controlWrite w = v.controlSecond w := by
  have number : (w.extractLsb' 0 4).toNat = w.toNat % 16 := BitVec.extractLsb'_toNat ..
  rw [Vdp.controlWrite, h, if_pos rfl, number]
  dsimp only
  rw [if_neg fun e => code ((controlCode_eq_iff w 0 (by decide)).1 e), if_neg fun e => noRegister ?_]
  · rfl
  · rw [Bool.and_eq_true, decide_eq_true_eq, decide_eq_true_eq] at e
    exact ⟨(controlCode_eq_iff w 2 (by decide)).1 e.1, e.2⟩

end Control

/-- The register value of a second control byte is the low byte of the address. -/
theorem registerByte (a : BitVec 14) : a.extractLsb' 0 8 = BitVec.ofNat 8 a.toNat := by
  apply BitVec.eq_of_toNat_eq
  rw [BitVec.extractLsb'_toNat, BitVec.toNat_ofNat, Nat.shiftRight_zero]

/-- Settles O22: the first byte by one equation, the second by the three effects a code can have. -/
theorem vdpControlPort : Obligations.VdpControlPort := by
  intro v w
  cases hs : v.second with
  | false =>
    rw [Vdp.controlWrite_first w hs]
    refine ⟨rfl, fun _ => ⟨?_, rfl, rfl, rfl, rfl⟩, fun h => absurd h (by simp)⟩
    have := v.addr.isLt
    rw [toNat_append_eq_add, BitVec.extractLsb'_toNat, Nat.shiftRight_eq_div_pow]
    omega
  | true =>
    have full : (v.controlSecond w).addr.toNat = w.toNat % 64 * 256 + v.addr.toNat % 256 := controlAddr_toNat v w
    have noneNamed (k : Nat) (h : ¬(w.toNat / 64 = 2 ∧ w.toNat % 16 < 11)) : v.reg[k]? =
        if w.toNat / 64 = 2 ∧ k = w.toNat % 16 ∧ k < 11
        then some (BitVec.ofNat 8 (w.toNat % 64 * 256 + v.addr.toNat % 256)) else v.reg[k]? :=
      (if_neg (by omega)).symm
    by_cases read : w.toNat / 64 = 0
    · rw [Vdp.controlWrite_read w hs read]
      refine ⟨rfl, fun h => absurd h (by simp), fun _ => ⟨rfl, controlCode_toNat w, fun _ => ⟨?_, ?_⟩,
        fun h => absurd read h, fun k => noneNamed k (by omega)⟩⟩
      · rw [← full]
        rfl
      · rw [← full]
        exact BitVec.toNat_add _ _
    · by_cases register : w.toNat / 64 = 2 ∧ w.toNat % 16 < 11
      · obtain ⟨two, index⟩ := register
        rw [Vdp.controlWrite_register w hs two index]
        refine ⟨rfl, fun h => absurd h (by simp), fun _ => ⟨rfl, controlCode_toNat w, fun h => absurd h read,
          fun _ => ⟨rfl, full⟩, fun k => ?_⟩⟩
        rw [← full, ← registerByte, Vector.getElem?_setIfInBounds]
        by_cases hk : k = w.toNat % 16
        · rw [if_pos hk.symm, if_pos index, if_pos ⟨two, hk, by omega⟩]
        · rw [if_neg (Ne.symm hk), if_neg fun h => hk h.2.1]
      · rw [Vdp.controlWrite_plain w hs read register]
        exact ⟨rfl, fun h => absurd h (by simp), fun _ => ⟨rfl, controlCode_toNat w, fun h => absurd h read,
          fun _ => ⟨rfl, full⟩, fun k => noneNamed k register⟩⟩

/-- ADDR advances modulo 16384 (rule R450). -/
theorem addr_advance (a : BitVec 14) : (a + 1#14).toNat = (a.toNat + 1) % 16384 := BitVec.toNat_add _ _

theorem Vdp.dataWrite_cram {v : Vdp} (w : Byte) (h : v.code = 3#2) : v.dataWrite w = { v with
    cram := v.cram.setIfInBounds (v.addr.toNat % 32) (w.extractLsb' 0 6)
    second := false
    readBuf := w
    addr := v.addr + 1#14 } := by
  have index : (v.addr.extractLsb' 0 5).toNat = v.addr.toNat % 32 := BitVec.extractLsb'_toNat ..
  rw [Vdp.dataWrite, if_pos h, index]
  rfl

theorem Vdp.dataWrite_vram {v : Vdp} (w : Byte) (h : v.code ≠ 3#2) : v.dataWrite w = { v with
    vram := Memory.write .vram v.vram v.addr.toNat w
    second := false
    readBuf := w
    addr := v.addr + 1#14 } := by
  rw [Vdp.dataWrite, if_neg h]
  rfl

/-- Settles O23: a data write by the code, a data read and a status read by their one equation each. -/
theorem vdpDataAndStatusPorts : Obligations.VdpDataAndStatusPorts := by
  refine ⟨fun v w => ?write, fun v => ⟨rfl, rfl, rfl, addr_advance _⟩, fun v u => ⟨?status, rfl⟩⟩
  case write =>
    by_cases h : v.code = 3#2
    · rw [Vdp.dataWrite_cram w h]
      refine ⟨rfl, addr_advance _, fun _ => ⟨rfl, fun k => ?_⟩, fun h' => absurd h h'⟩
      dsimp only
      rw [Vector.getElem?_setIfInBounds, if_pos (Nat.mod_lt _ (by decide))]
      exact if_congr eq_comm rfl rfl
    · rw [Vdp.dataWrite_vram w h]
      exact ⟨rfl, addr_advance _, fun h' => absurd h' h, fun _ => ⟨rfl, fun a =>
        Memory.read_write .vram v.vram v.addr.toNat a w⟩⟩
  case status =>
    change (BitVec.ofBool _ ++ BitVec.ofBool _ ++ BitVec.ofBool _ ++ u).toNat = _
    simp only [toNat_append_eq_add, BitVec.toNat_ofBool]
    omega

/-- A register write takes the low byte of ADDR. -/
theorem registerByte_bit (v : Vdp) (w : Byte) {k : Nat} (hk : k < 8) :
    ((v.controlSecond w).addr.extractLsb' 0 8).getLsbD k = v.addr.getLsbD k := by
  change ((w.extractLsb' 0 6 ++ v.addr.extractLsb' 0 8).extractLsb' 0 8).getLsbD k = _
  rw [BitVec.getLsbD_extractLsb', Nat.zero_add, BitVec.getLsbD_append, if_pos hk, BitVec.getLsbD_extractLsb',
    Nat.zero_add]
  simp [hk]

/-- Settles O24: the line by its definition; a status read clears both flags, a register write sets the enable. -/
theorem interruptLine : Obligations.InterruptLine := by
  refine ⟨fun v => by simp [Vdp.intLine], fun v u => rfl, fun v w hs two =>
    ⟨fun index pending enable => ?_, fun index pending enable => ?_⟩⟩
  all_goals
    rw [Vdp.controlWrite_register w hs two (by omega), index]
    simp only [Vdp.intLine, Vector.getElem_setIfInBounds_self, registerByte_bit, Nat.reduceLT, enable]
    simp [Vdp.controlSecond, pending]

end Sys2Proof.Machine
end

section
/-! The sprites of a line (60_exceptions.md rule R467): the pass over the table as a list of plots, and what a list of
plots leaves at a column. -/

namespace Sys2Proof.Machine

/-! Plots: a colour at a screen column, in the order they are made. -/

/-- Make the plots of a list in order. -/
def SpriteLine.plots (sl : SpriteLine) (ps : List (Int × BitVec 4)) : SpriteLine :=
  ps.foldl (fun sl p => sl.plot p.2 p.1) sl

theorem SpriteLine.plots_append (sl : SpriteLine) (ps qs : List (Int × BitVec 4)) :
    sl.plots (ps ++ qs) = (sl.plots ps).plots qs := List.foldl_append

/-- The colours that a list plots at a column. -/
def coloursAt (ps : List (Int × BitVec 4)) (sx : Nat) : List (BitVec 4) :=
  (ps.filter fun p => decide (p.1 = (sx : Int))).map Prod.snd

theorem coloursAt_append (ps qs : List (Int × BitVec 4)) (sx : Nat) :
    coloursAt (ps ++ qs) sx = coloursAt ps sx ++ coloursAt qs sx := by
  rw [coloursAt, List.filter_append, List.map_append]
  rfl

theorem coloursAt_singleton (x : Int) (c : BitVec 4) (sx : Nat) :
    coloursAt [(x, c)] sx = if x = (sx : Int) then [c] else [] := by
  by_cases h : x = (sx : Int) <;> simp [coloursAt, h]

/-- A sprite line with no pixel. -/
def SpriteLine.blank : SpriteLine := { pixels := [], overflow := false, collision := false }

section Plot
variable {sl : SpriteLine} {c : BitVec 4} {x : Int}

theorem SpriteLine.plot_off (h : ¬(0 ≤ x ∧ x < 256)) : sl.plot c x = sl := by
  rw [SpriteLine.plot, if_neg h]

theorem SpriteLine.plot_free {k : Nat} (hk : k < 256) (h : sl.pixels.lookup k = none) :
    sl.plot c k = { sl with pixels := (k, c) :: sl.pixels } := by
  rw [SpriteLine.plot, if_pos (by omega), Int.toNat_natCast, h]

theorem SpriteLine.plot_taken {k : Nat} (hk : k < 256) {b : BitVec 4} (h : sl.pixels.lookup k = some b) :
    sl.plot c k = { sl with collision := true } := by
  rw [SpriteLine.plot, if_pos (by omega), Int.toNat_natCast, h]

end Plot

/-- After plots on a blank line a column shows the first of its colours, and there was a collision when a column
had two. -/
structure SpriteLine.Shows (sl : SpriteLine) (ps : List (Int × BitVec 4)) : Prop where
  pixel : ∀ sx, sx < 256 → sl.pixels.lookup sx = (coloursAt ps sx).head?
  collision : sl.collision = true ↔ ∃ sx, sx < 256 ∧ 2 ≤ (coloursAt ps sx).length

theorem SpriteLine.Shows.plot {sl : SpriteLine} {ps : List (Int × BitVec 4)} (h : sl.Shows ps) (x : Int)
    (c : BitVec 4) : (sl.plot c x).Shows (ps ++ [(x, c)]) := by
  have grown (sx : Nat) : coloursAt (ps ++ [(x, c)]) sx = coloursAt ps sx ++ if x = (sx : Int) then [c] else [] := by
    rw [coloursAt_append, coloursAt_singleton]
  by_cases on : 0 ≤ x ∧ x < 256
  · obtain ⟨k, rfl⟩ := Int.eq_ofNat_of_zero_le on.1
    have hk : k < 256 := by omega
    have here : coloursAt (ps ++ [((k : Int), c)]) k = coloursAt ps k ++ [c] := by rw [grown, if_pos rfl]
    have elsewhere {sx : Nat} (hne : sx ≠ k) : coloursAt (ps ++ [((k : Int), c)]) sx = coloursAt ps sx := by
      rw [grown, if_neg (by omega), List.append_nil]
    cases hl : sl.pixels.lookup k with
    | none =>
      have empty : coloursAt ps k = [] := List.head?_eq_none_iff.1 ((h.pixel k hk).symm.trans hl)
      rw [SpriteLine.plot_free hk hl]
      constructor
      · intro sx hsx
        by_cases e : sx = k
        · rw [e, here, empty, List.lookup_cons_self]
          rfl
        · rw [elsewhere e, ← h.pixel sx hsx, List.lookup_cons, beq_eq_false_iff_ne.2 e]
      · rw [h.collision]
        refine exists_congr fun sx => and_congr_right fun hsx => ?_
        by_cases e : sx = k
        · simp [e, here, empty]
        · rw [elsewhere e]
    | some b =>
      rw [SpriteLine.plot_taken hk hl]
      have first : (coloursAt ps k).head? = some b := (h.pixel k hk).symm.trans hl
      constructor
      · intro sx hsx
        by_cases e : sx = k
        · rw [e, here, List.head?_append, first, hl]
          rfl
        · rw [elsewhere e, ← h.pixel sx hsx]
      · refine iff_of_true rfl ⟨k, hk, ?_⟩
        obtain ⟨rest, hrest⟩ := List.head?_eq_some_iff.1 first
        simp [here, hrest]
  · have off (sx : Nat) (hsx : sx < 256) : coloursAt (ps ++ [(x, c)]) sx = coloursAt ps sx := by
      rw [grown, if_neg (by omega), List.append_nil]
    rw [SpriteLine.plot_off on]
    constructor
    · intro sx hsx
      rw [off sx hsx]
      exact h.pixel sx hsx
    · rw [h.collision]
      exact exists_congr fun sx => and_congr_right fun hsx => by rw [off sx hsx]

theorem SpriteLine.blank_shows : SpriteLine.blank.Shows [] :=
  ⟨fun _ _ => rfl, iff_of_false (by decide) (by simp [coloursAt])⟩

theorem SpriteLine.plots_shows (ps : List (Int × BitVec 4)) : (SpriteLine.blank.plots ps).Shows ps := by
  induction ps using List.reverseRecOn with
  | nil => exact SpriteLine.blank_shows
  | append_singleton ps p ih =>
    rw [SpriteLine.plots_append]
    exact ih.plot p.1 p.2

/-- Plots do not set the overflow. -/
theorem SpriteLine.plots_overflow (sl : SpriteLine) (ps : List (Int × BitVec 4)) :
    (sl.plots ps).overflow = sl.overflow := by
  induction ps generalizing sl with
  | nil => rfl
  | cons p ps ih =>
    refine (ih (sl.plot p.2 p.1)).trans ?_
    unfold SpriteLine.plot
    split
    · split <;> rfl
    · rfl

/-! One sprite as plots. -/

section Sprite
variable (v : Vdp)

/-- How many screen columns and lines a pattern pixel takes. -/
def Vdp.zoom : Nat := if v.reg[1].getLsbD 0 then 2 else 1

/-- The plots of one pattern pixel. -/
def Vdp.pixelPlots (pa : Nat) (x : Int) (px : Nat) : List (Int × BitVec 4) :=
  if v.patternPixel pa (7 - px) = 0#4 then []
  else if v.spriteZoom then [(x + 2 * px, v.patternPixel pa (7 - px)), (x + 2 * px + 1, v.patternPixel pa (7 - px))]
  else [(x + px, v.patternPixel pa (7 - px))]

theorem Vdp.drawRow_eq (pa : Nat) (x : Int) (pxs : List Nat) (sl : SpriteLine) :
    v.drawRow pa x pxs sl = sl.plots (pxs.flatMap (v.pixelPlots pa x)) := by
  induction pxs generalizing sl with
  | nil => rfl
  | cons px pxs ih =>
    rw [List.flatMap_cons, SpriteLine.plots_append, ← ih]
    have here : sl.plots (v.pixelPlots pa x px) = if v.patternPixel pa (7 - px) = 0#4 then sl
        else if v.spriteZoom then (sl.plot (v.patternPixel pa (7 - px)) (x + 2 * px)).plot
          (v.patternPixel pa (7 - px)) (x + 2 * px + 1)
        else sl.plot (v.patternPixel pa (7 - px)) (x + px) := by
      unfold Vdp.pixelPlots
      split_ifs <;> rfl
    rw [here]
    rfl

/-- A pattern pixel stands at the columns that its zoomed place takes. -/
theorem Vdp.coloursAt_pixelPlots (pa : Nat) (x : Int) (px sx : Nat) : coloursAt (v.pixelPlots pa x px) sx =
    if x ≤ sx ∧ ((sx : Int) - x).toNat / v.zoom = px then [v.patternPixel pa (7 - px)].filter (· ≠ 0#4) else [] := by
  unfold Vdp.pixelPlots Vdp.zoom Vdp.spriteZoom
  generalize v.patternPixel pa (7 - px) = c
  by_cases transparent : c = 0#4
  · simp [transparent, coloursAt]
  · have opaque_ : [c].filter (· ≠ 0#4) = [c] := by simp [transparent]
    rw [if_neg transparent, opaque_]
    split
    · rw [← List.singleton_append, coloursAt_append, coloursAt_singleton, coloursAt_singleton]
      by_cases left : x + 2 * px = sx
      · rw [if_pos left, if_neg (by omega), if_pos (by omega)]
        rfl
      · by_cases right : x + 2 * px + 1 = sx
        · rw [if_neg left, if_pos right, if_pos (by omega)]
          rfl
        · rw [if_neg left, if_neg right, if_neg (by omega)]
          rfl
    · rw [coloursAt_singleton]
      refine if_congr ?_ rfl rfl
      omega

/-- Of a range at most one member is picked. -/
theorem flatMap_range_ite {α : Type} (n k : Nat) (f : Nat → List α) :
    (List.range n).flatMap (fun j => if k = j then f j else []) = if k < n then f k else [] := by
  induction n with
  | zero => rfl
  | succ n ih =>
    rw [List.range_succ, List.flatMap_append, ih, List.flatMap_singleton]
    rcases Nat.lt_trichotomy k n with h | h | h
    · rw [if_pos h, if_neg (by omega), if_pos (by omega), List.append_nil]
    · rw [if_neg (by omega), if_pos h, if_pos (by omega), h]
      rfl
    · rw [if_neg (by omega), if_neg (by omega), if_neg (by omega)]
      rfl

theorem coloursAt_flatMap {α : Type} (l : List α) (f : α → List (Int × BitVec 4)) (sx : Nat) :
    coloursAt (l.flatMap f) sx = l.flatMap fun a => coloursAt (f a) sx := by
  induction l with
  | nil => rfl
  | cons a l ih => rw [List.flatMap_cons, List.flatMap_cons, coloursAt_append, ih]

/-- The colours of a row of eight pattern pixels at a column: at most one, when the column is in the row and the pixel
opaque. -/
theorem Vdp.coloursAt_row (pa : Nat) (x : Int) (sx : Nat) :
    coloursAt ((List.range 8).flatMap (v.pixelPlots pa x)) sx =
      if x ≤ sx ∧ (sx : Int) < x + 8 * v.zoom
      then [v.patternPixel pa (7 - ((sx : Int) - x).toNat / v.zoom)].filter (· ≠ 0#4) else [] := by
  have pos : 0 < v.zoom := by unfold Vdp.zoom; split <;> decide
  have columns : ((sx : Int) - x).toNat / v.zoom < 8 ↔ (sx : Int) < x + 8 * v.zoom ∨ (sx : Int) < x := by
    rw [Nat.div_lt_iff_lt_mul pos]
    omega
  rw [coloursAt_flatMap]
  simp only [Vdp.coloursAt_pixelPlots]
  by_cases left : x ≤ sx
  · simp only [left, true_and]
    rw [flatMap_range_ite]
    exact if_congr (by omega) rfl rfl
  · simp [left]

/-- The colour of a pattern pixel as a number: its four bit planes. -/
theorem Vdp.patternPixel_toNat (pa bit : Nat) : (v.patternPixel pa bit).toNat =
    8 * ((v.vramAt (pa + 3)).getLsbD bit).toNat + 4 * ((v.vramAt (pa + 2)).getLsbD bit).toNat +
      2 * ((v.vramAt (pa + 1)).getLsbD bit).toNat + ((v.vramAt pa).getLsbD bit).toNat := by
  change (BitVec.ofBool _ ++ BitVec.ofBool _ ++ BitVec.ofBool _ ++ BitVec.ofBool _).toNat = _
  simp only [toNat_append_eq_add, BitVec.toNat_ofBool]
  omega

/-- The top line of sprite `i`. -/
def Vdp.spriteTop (i : Nat) : Int :=
  let y : Int := (v.vramAt (v.spriteTable + i)).toNat + 1
  if y > 240 then y - 256 else y

/-- The leftmost column of sprite `i`. -/
def Vdp.spriteLeft (i : Nat) : Int :=
  ((v.vramAt (v.spriteTable + 0x80 + 2 * i)).toNat : Int) - (if v.reg[0].getLsbD 3 then 8 else 0)

/-- The pattern number of sprite `i`. -/
def Vdp.spritePattern (i : Nat) : Nat :=
  let n := (v.vramAt (v.spriteTable + 0x80 + 2 * i + 1)).toNat + (if v.reg[6].getLsbD 2 then 256 else 0)
  if v.reg[1].getLsbD 1 then n / 2 * 2 else n

/-- The address of the pattern row that sprite `i` shows on line `ln`. -/
def Vdp.spriteRow (ln i : Nat) : Nat := v.spritePattern i * 32 + ((ln : Int) - v.spriteTop i).toNat / v.zoom * 4

/-- The plots of sprite `i` on line `ln`. -/
def Vdp.spritePlots (ln i : Nat) : List (Int × BitVec 4) :=
  (List.range 8).flatMap (v.pixelPlots (v.spriteRow ln i) (v.spriteLeft i))

theorem Vdp.drawSprite_eq (ln i : Nat) (sl : SpriteLine) :
    v.drawSprite ln i (v.spriteTop i) sl = sl.plots (v.spritePlots ln i) := by
  have left : (if v.reg[0].getLsbD 3 then ((v.vramAt (v.spriteTable + 0x80 + 2 * i)).toNat : Int) - 8
      else ((v.vramAt (v.spriteTable + 0x80 + 2 * i)).toNat : Int)) = v.spriteLeft i := by
    unfold Vdp.spriteLeft
    split
    · rfl
    · exact (Int.sub_zero _).symm
  have row (dy : Nat) : (if v.spriteZoom then dy / 2 else dy) = dy / v.zoom := by
    unfold Vdp.spriteZoom Vdp.zoom
    split
    · rfl
    · exact (Nat.div_one dy).symm
  have bank (n : Nat) : (if v.reg[6].getLsbD 2 then n + 256 else n) = n + if v.reg[6].getLsbD 2 then 256 else 0 := by
    split <;> rfl
  rw [Vdp.drawSprite, Vdp.drawRow_eq, left, row, bank]
  rfl

/-- The colour that sprite `i` has at a column, 0 where it has none. -/
def Vdp.spriteColour (ln sx i : Nat) : Nat :=
  if v.spriteLeft i ≤ sx ∧ (sx : Int) < v.spriteLeft i + 8 * v.zoom
  then (v.patternPixel (v.spriteRow ln i) (7 - ((sx : Int) - v.spriteLeft i).toNat / v.zoom)).toNat else 0

theorem Vdp.coloursAt_sprite (ln sx i : Nat) :
    (coloursAt (v.spritePlots ln i) sx).map BitVec.toNat = [v.spriteColour ln sx i].filter (· ≠ 0) := by
  rw [Vdp.spritePlots, Vdp.coloursAt_row, Vdp.spriteColour]
  split
  · generalize v.patternPixel _ _ = c
    by_cases h : c = 0#4
    · simp [h]
    · have h' : c.toNat ≠ 0 := fun e => h (BitVec.eq_of_toNat_eq e)
      simp [h, h']
  · rfl

theorem Vdp.coloursAt_sprites (ln sx : Nat) (is : List Nat) :
    (coloursAt (is.flatMap (v.spritePlots ln)) sx).map BitVec.toNat =
      (is.map (v.spriteColour ln sx)).filter (· ≠ 0) := by
  induction is with
  | nil => rfl
  | cons i is ih =>
    rw [List.flatMap_cons, coloursAt_append, List.map_append, ih, Vdp.coloursAt_sprite]
    exact (List.filter_append [_] _).symm

/-! The pass over the table. -/

/-- Sprite `i` is not the end marker. -/
def Vdp.listed (i : Nat) : Bool := decide (v.vramAt (v.spriteTable + i) ≠ 0xD0#8)

/-- Sprite `i` takes in line `ln`. -/
def Vdp.touches (ln i : Nat) : Bool := decide (v.spriteTop i ≤ ln ∧ (ln : Int) < v.spriteTop i + v.spriteHeight)

/-- The sprites of a list that stand before the end marker and take in the line. -/
def Vdp.touching (ln : Nat) (is : List Nat) : List Nat := (is.takeWhile v.listed).filter (v.touches ln)

theorem Vdp.spritePass_cons (ln i : Nat) (is : List Nat) (n : Nat) (sl : SpriteLine) :
    v.spritePass ln (i :: is) n sl = if v.listed i = false then sl
      else if v.touches ln i = true then
        if 8 < n + 1 then { sl with overflow := true }
        else v.spritePass ln is (n + 1) (sl.plots (v.spritePlots ln i))
      else v.spritePass ln is n sl := by
  have unlisted : v.listed i = false ↔ v.vramAt (v.spriteTable + i) = 0xD0#8 := by simp [Vdp.listed]
  have on : v.touches ln i = true ↔ v.spriteTop i ≤ ln ∧ (ln : Int) < v.spriteTop i + v.spriteHeight := by
    simp [Vdp.touches]
  rw [← Vdp.drawSprite_eq]
  simp only [unlisted, on]
  rfl

/-- No ninth sprite, no overflow. -/
theorem SpriteLine.overflow_unchanged (sl : SpriteLine) {n : Nat} (hn : n ≤ 8) :
    { sl with overflow := sl.overflow || decide (8 < n) } = sl := by
  rw [decide_eq_false (by omega), Bool.or_false]

/-- With `n` sprites drawn already, the pass draws as many more as make eight, and overflows when there is a ninth. -/
theorem Vdp.spritePass_eq (ln : Nat) (is : List Nat) {n : Nat} (hn : n ≤ 8) (sl : SpriteLine) :
    v.spritePass ln is n sl =
      { sl.plots (((v.touching ln is).take (8 - n)).flatMap (v.spritePlots ln)) with
        overflow := sl.overflow || decide (8 < n + (v.touching ln is).length) } := by
  induction is generalizing n sl with
  | nil =>
    simpa [Vdp.touching, Vdp.spritePass, SpriteLine.plots] using (sl.overflow_unchanged hn).symm
  | cons i is ih =>
    rw [Vdp.spritePass_cons]
    by_cases hl : v.listed i = false
    · have rest : v.touching ln (i :: is) = [] := by simp [Vdp.touching, hl]
      rw [if_pos hl, rest]
      simpa [SpriteLine.plots] using (sl.overflow_unchanged hn).symm
    · rw [if_neg hl]
      by_cases ht : v.touches ln i = true
      · have rest : v.touching ln (i :: is) = i :: v.touching ln is := by
          simp [Vdp.touching, hl, ht]
        rw [if_pos ht, rest]
        by_cases full : 8 < n + 1
        · have last : 8 - n = 0 := by omega
          have ninth : decide (8 < n + (i :: v.touching ln is).length) = true :=
            decide_eq_true (by rw [List.length_cons]; omega)
          rw [if_pos full, last, ninth, Bool.or_true]
          rfl
        · have next : 8 - n = (8 - (n + 1)) + 1 := by omega
          have count : n + (i :: v.touching ln is).length = n + 1 + (v.touching ln is).length := by
            rw [List.length_cons]
            omega
          rw [if_neg full, ih (by omega), next, List.take_succ_cons, List.flatMap_cons, SpriteLine.plots_append, count,
            SpriteLine.plots_overflow]
      · have rest : v.touching ln (i :: is) = v.touching ln is := by
          simp [Vdp.touching, hl, ht]
        rw [if_neg ht, rest, ih hn]

theorem Vdp.sprites_eq (ln : Nat) : v.sprites ln =
    { SpriteLine.blank.plots (((v.touching ln (List.range 64)).take 8).flatMap (v.spritePlots ln)) with
      overflow := decide (8 < (v.touching ln (List.range 64)).length) } := by
  refine (v.spritePass_eq ln (List.range 64) (Nat.zero_le 8) SpriteLine.blank).trans ?_
  rw [Nat.zero_add, Nat.sub_zero]
  rfl

/-- The height of a sprite on the screen. -/
theorem Vdp.spriteHeight_eq : (v.spriteHeight : Int) = (if v.reg[1].getLsbD 1 then 16 else 8) * v.zoom := by
  unfold Vdp.spriteHeight Vdp.spriteTall Vdp.spriteZoom Vdp.zoom
  split_ifs <;> rfl

theorem Vdp.spriteColour_eq (ln sx i : Nat) : v.spriteColour ln sx i =
    let row := v.spriteRow ln i
    let bit := 7 - ((sx : Int) - v.spriteLeft i).toNat / v.zoom
    if v.spriteLeft i ≤ sx ∧ (sx : Int) < v.spriteLeft i + 8 * v.zoom then
      8 * ((v.vramAt (row + 3)).getLsbD bit).toNat + 4 * ((v.vramAt (row + 2)).getLsbD bit).toNat +
        2 * ((v.vramAt (row + 1)).getLsbD bit).toNat + ((v.vramAt row).getLsbD bit).toNat
    else 0 := by
  rw [Vdp.spriteColour, Vdp.patternPixel_toNat]

end Sprite

/-- Settles O27: the pass is the list of the first eight touching sprites' plots, and a column shows its first. -/
theorem spriteLine : Obligations.SpriteLine := by
  intro v ln zoom sat height top listed touching left pattern colour drawn
  have hTouching : touching = v.touching ln (List.range 64) := by
    have hHeight : height = v.spriteHeight := (v.spriteHeight_eq).symm
    unfold Vdp.touching Vdp.touches
    rw [← hHeight]
    rfl
  have hColour (sx : Nat) : colour sx = v.spriteColour ln sx := funext fun i => (v.spriteColour_eq ln sx i).symm
  have shows := SpriteLine.plots_shows ((touching.take 8).flatMap (v.spritePlots ln))
  have hDrawn (sx : Nat) :
      (coloursAt ((touching.take 8).flatMap (v.spritePlots ln)) sx).map BitVec.toNat = drawn sx := by
    rw [Vdp.coloursAt_sprites, ← hColour]
  rw [Vdp.sprites_eq, ← hTouching]
  refine ⟨rfl, fun sx hsx => ?_, ?_⟩
  · rw [← hDrawn, List.head?_map]
    exact congrArg _ (shows.pixel sx hsx)
  · simp only [← hDrawn, List.length_map]
    exact shows.collision

end Sys2Proof.Machine
end

section
/-! The PSG's write port and its noise and mix (60_exceptions.md rules R502, R508, R509). -/

namespace Sys2Proof.Machine

/-! A write goes to the volume, the tone period or the noise control that is latched (rule R502). -/

/-- The latch after a write. -/
def Psg.latched (p : Psg) (v : Byte) : Psg :=
  if 128 ≤ v.toNat then { p with lch := v.extractLsb' 5 2, ltype := v.getLsbD 4 } else p

theorem Psg.write_eq (p : Psg) (v : Byte) : p.write v = (p.latched v).toTarget v (decide (128 ≤ v.toNat)) := by
  rw [Psg.write, Psg.latched, sign8]
  by_cases h : 128 ≤ v.toNat <;> simp [h]

theorem Psg.latched_of_ge {p : Psg} {v : Byte} (h : 128 ≤ v.toNat) :
    p.latched v = { p with lch := v.extractLsb' 5 2, ltype := v.getLsbD 4 } := if_pos h

theorem Psg.latched_of_lt {p : Psg} {v : Byte} (h : v.toNat < 128) : p.latched v = p := if_neg (by omega)

/-- Latching changes the latch only. -/
theorem Psg.latched_eq (p : Psg) (v : Byte) :
    p.latched v = { p with lch := (p.latched v).lch, ltype := (p.latched v).ltype } := by
  unfold Psg.latched
  split <;> rfl

/-- The tone period that a latch byte (`low`) or a data byte makes of the old one. -/
def tonePeriod (old : BitVec 10) (v : Byte) (low : Bool) : BitVec 10 :=
  if low then old.extractLsb' 4 6 ++ v.extractLsb' 0 4 else v.extractLsb' 0 6 ++ old.extractLsb' 0 4

theorem tonePeriod_toNat (old : BitVec 10) (v : Byte) (low : Bool) : (tonePeriod old v low).toNat =
    if low then old.toNat / 16 * 16 + v.toNat % 16 else v.toNat % 64 * 16 + old.toNat % 16 := by
  have := old.isLt
  cases low with
  | true =>
    refine (toNat_append_eq_add (old.extractLsb' 4 6) (v.extractLsb' 0 4)).trans ?_
    rw [BitVec.extractLsb'_toNat, BitVec.extractLsb'_toNat, Nat.shiftRight_eq_div_pow, if_pos rfl]
    omega
  | false =>
    refine (toNat_append_eq_add (v.extractLsb' 0 6) (old.extractLsb' 0 4)).trans ?_
    rw [BitVec.extractLsb'_toNat, BitVec.extractLsb'_toNat]
    rfl

section Target
variable {p : Psg} (v : Byte) (low : Bool)

theorem Psg.toTarget_volume (h : p.ltype = true) :
    p.toTarget v low = { p with vol := p.vol.setIfInBounds p.lch.toNat (v.extractLsb' 0 4) } := by
  rw [Psg.toTarget, if_pos h]

theorem Psg.toTarget_tone (h : p.ltype = false) (hch : p.lch ≠ 3#2) : p.toTarget v low =
    { p with tone := p.tone.setIfInBounds p.lch.toNat (tonePeriod (p.tone.getD p.lch.toNat 0#10) v low) } := by
  have lt : p.lch.toNat < 3 := by bv_omega
  rw [Psg.toTarget, h, if_neg (by decide), if_pos lt]
  rfl

theorem Psg.toTarget_noise (h : p.ltype = false) (hch : p.lch = 3#2) :
    p.toTarget v low = { p with noise := v.extractLsb' 0 3, lfsr := 0x4000#15 } := by
  rw [Psg.toTarget, h, hch]
  rfl

end Target

theorem vector_getElem?_set {α : Type} {n : Nat} (xs : Vector α n) {i : Nat} (hi : i < n) (x : α) (k : Nat) :
    (xs.setIfInBounds i x)[k]? = if k = i then some x else xs[k]? := by
  rw [Vector.getElem?_setIfInBounds, if_pos hi]
  exact if_congr eq_comm rfl rfl

theorem vector_getD_of_getElem? {α : Type} {n : Nat} {xs : Vector α n} {k : Nat} {x : α} (h : xs[k]? = some x) (d : α) :
    xs.getD k d = x := by
  obtain ⟨hk, rfl⟩ := Vector.getElem?_eq_some_iff.1 h
  exact vector_getD_val xs ⟨k, hk⟩ d

/-- Settles O30: the latch first, then the one target that it names. -/
theorem psgWritePort : Obligations.PsgWritePort := by
  intro p v
  rw [Psg.write_eq]
  have latch : (128 ≤ v.toNat → (p.latched v).lch.toNat = v.toNat / 32 % 4 ∧ (p.latched v).ltype = v.getLsbD 4) ∧
      (v.toNat < 128 → (p.latched v).lch = p.lch ∧ (p.latched v).ltype = p.ltype) := by
    refine ⟨fun h => ?_, fun h => ?_⟩
    · rw [Psg.latched_of_ge h]
      refine ⟨?_, rfl⟩
      rw [BitVec.extractLsb'_toNat, Nat.shiftRight_eq_div_pow]
    · rw [Psg.latched_of_lt h]
      exact ⟨rfl, rfl⟩
  have frame := Psg.latched_eq p v
  generalize p.latched v = q at latch frame
  obtain ⟨latchByte, dataByte⟩ := latch
  have hvol : q.vol = p.vol := by rw [frame]
  have htone : q.tone = p.tone := by rw [frame]
  have hnoise : q.noise = p.noise := by rw [frame]
  have hlfsr : q.lfsr = p.lfsr := by rw [frame]
  cases htype : q.ltype with
  | true =>
    rw [Psg.toTarget_volume _ _ htype]
    refine ⟨by rw [frame], latchByte, dataByte, fun k => ?_, fun k old h => ?_, fun h => ?_, fun _ => ⟨hnoise, hlfsr⟩⟩
    · rw [vector_getElem?_set _ q.lch.isLt, hvol]
      simp [htype]
    · simp [htone, h, htype]
    · exact absurd (htype.symm.trans h) (by decide)
  | false =>
    by_cases hch : q.lch = 3#2
    · rw [Psg.toTarget_noise _ _ htype hch]
      refine ⟨by rw [frame], latchByte, dataByte, fun k => ?_, fun k old h => ?_,
        fun _ _ => ⟨BitVec.extractLsb'_toNat .., rfl⟩, fun h => ?_⟩
      · simp [htype, hvol]
      · have hk : k ≠ 3 := fun e => by simp [e] at h
        simp [htone, h, hch, hk]
      · exact absurd h (by simp [htype, hch])
    · rw [Psg.toTarget_tone _ _ htype hch]
      refine ⟨by rw [frame], latchByte, dataByte, fun k => ?_, fun k old h => ?_, fun _ h => absurd h hch,
        fun _ => ⟨hnoise, hlfsr⟩⟩
      · simp [htype, hvol]
      · dsimp only
        rw [vector_getElem?_set _ (by bv_omega), htone]
        by_cases hk : k = q.lch.toNat
        · subst hk
          rw [if_pos rfl, vector_getD_of_getElem? h, Option.map_some, tonePeriod_toNat]
          simp [htype]
        · rw [if_neg hk, h, if_neg fun e => hk e.2]
          rfl

/-! The noise channel (rule R508). -/

theorem noiseRate_eq (p : Psg) :
    p.noisePeriod = if p.noise.toNat % 4 = 3 then p.tone[2].toNat else 16 * 2 ^ (p.noise.toNat % 4) := by
  have rate : (p.noise.extractLsb' 0 2).toNat = p.noise.toNat % 4 := BitVec.extractLsb'_toNat ..
  have bound : p.noise.toNat % 4 < 4 := Nat.mod_lt _ (by decide)
  rw [Psg.noisePeriod, rate]
  generalize p.noise.toNat % 4 = k at bound
  match k, bound with
  | 0, _ | 1, _ | 2, _ | 3, _ => rfl

theorem noiseMode_eq (x : BitVec 3) : x.getLsbD 2 = decide (x.toNat / 4 = 1) := by
  revert x
  decide

/-- The shifted noise register as a number. -/
theorem Psg.shifted_toNat (c : Config) (p : Psg) : (p.shifted c).toNat =
    if p.lfsr.toNat / 2 + 16384 * (p.feedback c).toNat = 0 then 0x7FFF
    else p.lfsr.toNat / 2 + 16384 * (p.feedback c).toNat := by
  have value : (BitVec.ofBool (p.feedback c) ++ p.lfsr.extractLsb' 1 14 : BitVec 15).toNat =
      p.lfsr.toNat / 2 + 16384 * (p.feedback c).toNat := by
    have := p.lfsr.isLt
    refine (toNat_append_eq_add (BitVec.ofBool (p.feedback c)) (p.lfsr.extractLsb' 1 14)).trans ?_
    rw [BitVec.extractLsb'_toNat, BitVec.toNat_ofBool, Nat.shiftRight_eq_div_pow]
    omega
  rw [← value, Psg.shifted]
  by_cases h : (BitVec.ofBool (p.feedback c) ++ p.lfsr.extractLsb' 1 14 : BitVec 15) = 0#15
  · rw [if_pos h]
    exact (if_pos (congrArg BitVec.toNat h)).symm
  · rw [if_neg h]
    exact (if_neg fun e => h (BitVec.eq_of_toNat_eq e)).symm

/-- A tone step changes the counters and the polarities only. -/
theorem Psg.toneStep_eq (c : Config) (p : Psg) (ch : Nat) :
    p.toneStep c ch = { p with ctr := (p.toneStep c ch).ctr, pol := (p.toneStep c ch).pol } := by
  unfold Psg.toneStep
  dsimp only
  split_ifs <;> rfl

/-- The PSG after the three tone channels of a sample step. -/
def Psg.toneSteps (c : Config) (p : Psg) : Psg := ((p.toneStep c 0).toneStep c 1).toneStep c 2

theorem Psg.toneSteps_eq (c : Config) (p : Psg) :
    p.toneSteps c = { p with ctr := (p.toneSteps c).ctr, pol := (p.toneSteps c).pol } := by
  unfold Psg.toneSteps
  rw [Psg.toneStep_eq, Psg.toneStep_eq, Psg.toneStep_eq c p]

/-- The tone channels leave the noise channel's counter and polarity alone. -/
theorem Psg.toneSteps_sameChannel (c : Config) (p : Psg) : (p.toneSteps c).SameChannel 3 p :=
  (Psg.toneStep_sameChannel c _ (by decide)).trans <|
    (Psg.toneStep_sameChannel c _ (by decide)).trans (Psg.toneStep_sameChannel c p (by decide))

section NoiseStep
variable {c : Config} {p : Psg}

theorem Psg.noiseStep_due (due : p.ctr[3] - c.psgDecrement ≤ 0) : p.noiseStep c = { p with
    ctr := p.ctr.set 3 (p.ctr[3] - c.psgDecrement + p.noisePeriod)
    pol := p.pol.set 3 p.pol[3].flip
    lfsr := p.shifted c } := by
  rw [Psg.noiseStep]
  exact if_pos due

theorem Psg.noiseStep_running (running : 0 < p.ctr[3] - c.psgDecrement) :
    p.noiseStep c = { p with ctr := p.ctr.set 3 (p.ctr[3] - c.psgDecrement) } := by
  rw [Psg.noiseStep]
  exact if_neg running.not_ge

end NoiseStep

theorem Psg.noiseStep_eq (c : Config) (p : Psg) : p.noiseStep c = { p with
    ctr := (p.noiseStep c).ctr, pol := (p.noiseStep c).pol, lfsr := (p.noiseStep c).lfsr } := by
  unfold Psg.noiseStep
  dsimp only
  split <;> rfl

/-! The mixed sample (rule R509). -/

/-- The volume of a channel, times a factor. -/
def Psg.voice (c : Config) (p : Psg) (factor : Int) (k : Fin 4) : Sample :=
  (c.psgVolumeTable.get (p.vol.get k).toFin).times factor

theorem Psg.mix_eq (c : Config) (p : Psg) : p.mix c =
    (((p.voice c p.pol[0].sign 0).add c (p.voice c p.pol[1].sign 1)).add c (p.voice c p.pol[2].sign 2)).add c
      (p.voice c (p.lfsr.getLsbD 0).toNat 3) := by
  have volume (k : Fin 4) : c.psgVolumeTable.getD (p.vol.getD k 0#4).toNat Sample.zero =
      c.psgVolumeTable.get (p.vol.get k).toFin := by
    rw [vector_getD_val]
    exact vector_getD_val c.psgVolumeTable (p.vol.get k).toFin _
  unfold Psg.voice
  rw [← volume, ← volume, ← volume, ← volume]
  rfl

/-- A sample is written at WR (rule R509). -/
theorem Psg.emit_getElem? (c : Config) (p : Psg) (x : Sample) (h : p.wr ≤ p.out.length) (k : Nat) :
    (p.emit c x).out[k]? = if k = p.wr then some x else p.out[k]? := by
  rw [Psg.emit]
  by_cases hw : p.wr < p.out.length
  · rw [if_pos hw, List.getElem?_set, if_pos hw]
    exact if_congr eq_comm rfl rfl
  · have last : p.wr = p.out.length := by omega
    rw [if_neg hw, last]
    by_cases hk : k = p.out.length
    · rw [if_pos hk, hk, List.getElem?_concat_length]
    · rw [if_neg hk]
      rcases Nat.lt_or_gt_of_ne hk with h | h
      · rw [List.getElem?_append_left h]
      · rw [List.getElem?_eq_none (by simp; omega), List.getElem?_eq_none (by omega)]

/-- What a sample step does with the noise channel and the output. -/
theorem Psg.sampleStep_eq (c : Config) (p : Psg) : p.sampleStep c = (Psg.noiseStep c (p.toneSteps c)).emit c
    ((Psg.noiseStep c (p.toneSteps c)).mix c) := rfl

end Sys2Proof.Machine

namespace Sys2Proof

/-! A sum is one of the two numbers of the format around the exact sum (rule R509). -/

/-- A number in finer units. -/
theorem Sample.inUnits_finer (x : Sample) {e e' : Int} (h : e ≤ e') (h' : e' ≤ x.exponent) :
    x.inUnits e = x.inUnits e' * 2 ^ (e' - e).toNat := by
  have scale : ((2 : Int) ^ (x.exponent - e).toNat) = 2 ^ (x.exponent - e').toNat * 2 ^ (e' - e).toNat := by
    exact_mod_cast two_pow_units h' h
  rw [Sample.inUnits, Sample.inUnits, scale, mul_assoc]

theorem Sample.significand_lt {bits : Nat} {w : Sample} (h : w.fits bits = true) : w.significand.natAbs < 2 ^ bits := by
  rcases (Sample.fits_iff bits w).1 h with rfl | h
  · exact Nat.two_pow_pos bits
  · exact h.2

/-- No number of the format lies beyond a rounded number towards the exact one, that included. -/
theorem Sample.round_nearest {bits : Nat} (hb : 0 < bits) (n : Int) {e E : Int} {w : Sample} (hw : w.fits bits = true)
    (he : E ≤ e) (hx : E ≤ w.exponent) (hr : E ≤ (Sample.round bits n e).exponent) :
    let r := (Sample.round bits n e).inUnits E
    let exact := n * 2 ^ (e - E).toNat
    ¬(r < w.inUnits E ∧ w.inUnits E ≤ exact) ∧ ¬(exact ≤ w.inUnits E ∧ w.inUnits E < r) := by
  intro r exact
  by_cases hn : n = 0
  · have hr0 : r = 0 := by simp [r, Sample.round, hn, Sample.inUnits, Sample.zero]
    have he0 : exact = 0 := by simp [exact, hn]
    omega
  · have rounded : Sample.round bits n e =
        { significand := n.sign * (roundMagnitude bits (Config.roundsAway n e) n.natAbs e).1
          exponent := (roundMagnitude bits (Config.roundsAway n e) n.natAbs e).2 } := by
      rw [Sample.round, if_neg hn]
    rw [rounded] at hr
    have nearest := roundMagnitude_nearest (Config.roundsAway n e) hb (Int.natAbs_pos.2 hn)
      (Sample.significand_lt hw) he hx hr
    have hr' : r = n.sign * ((roundMagnitude bits (Config.roundsAway n e) n.natAbs e).1 *
        2 ^ ((roundMagnitude bits (Config.roundsAway n e) n.natAbs e).2 - E).toNat : Nat) := by
      simp only [r, rounded, Sample.inUnits, mul_assoc]
      push_cast
      rfl
    have hexact : exact = n.sign * (n.natAbs * 2 ^ (e - E).toNat : Nat) := by
      simp only [exact]
      push_cast
      rw [← mul_assoc, Int.sign_mul_abs]
    have hw' : (w.inUnits E).natAbs = w.significand.natAbs * 2 ^ (w.exponent - E).toNat := by
      rw [Sample.inUnits, Int.natAbs_mul, Int.natAbs_pow]
      rfl
    rw [hr', hexact]
    dsimp only at nearest
    rw [← hw'] at nearest
    rcases Int.lt_or_gt_of_ne hn with neg | pos
    · rw [Int.sign_eq_neg_one_of_neg neg]
      omega
    · rw [Int.sign_eq_one_of_pos pos]
      omega

end Sys2Proof

namespace Sys2Proof.Machine

/-- Settles O32: the noise channel by its two cases, the mix by its voices, the sum by its rounding. -/
theorem psgNoiseAndMix : Obligations.PsgNoiseAndMix := by
  refine ⟨fun c p => ?sample, fun c x y hb => ⟨Sample.add_fits hb x y, fun w e hw hx hy hr hwe => ?nearest⟩⟩
  case sample =>
    rw [Psg.sampleStep_eq]
    have tones := p.toneSteps_eq c
    obtain ⟨-, hctr, hpol⟩ := p.toneSteps_sameChannel c
    generalize p.toneSteps c = q at tones hctr hpol
    change q.ctr[3] = p.ctr[3] at hctr
    change q.pol[3] = p.pol[3] at hpol
    have htone : q.tone = p.tone := by rw [tones]
    have hnoise : q.noise = p.noise := by rw [tones]
    have hlfsr : q.lfsr = p.lfsr := by rw [tones]
    have hout : (q.noiseStep c).out = p.out := by rw [Psg.noiseStep_eq, tones]
    have hwr : (q.noiseStep c).wr = p.wr := by rw [Psg.noiseStep_eq, tones]
    have hvol : (q.noiseStep c).vol = p.vol := by rw [Psg.noiseStep_eq, tones]
    have period : (q.noisePeriod : Int) =
        if p.noise.toNat % 4 = 3 then (p.tone[2].toNat : Int) else (16 * 2 ^ (p.noise.toNat % 4) : Nat) := by
      rw [noiseRate_eq, hnoise, htone]
      split <;> rfl
    have feedback : q.feedback c = if p.noise.toNat / 4 = 1
        then p.lfsr.getLsbD c.psgTap0 != p.lfsr.getLsbD c.psgTap1 else p.lfsr.getLsbD 0 := by
      rw [Psg.feedback, noiseMode_eq, hnoise, hlfsr]
      simp
    refine ⟨?frame, fun due => ?due, fun running => ?running, by rw [← hwr]; rfl, fun h => ?out⟩
    case frame =>
      rw [Psg.emit, Psg.noiseStep_eq, tones]
    case due =>
      have e := Psg.noiseStep_due (c := c) (p := q) (by rw [hctr]; exact due)
      change (q.noiseStep c).ctr[3] = _ ∧ (q.noiseStep c).pol[3] = _ ∧ (q.noiseStep c).lfsr.toNat = _
      rw [e, ← feedback, ← hlfsr, ← Psg.shifted_toNat, ← period, ← Polarity.flip_eq_ite, ← hctr, ← hpol]
      simp
    case running =>
      have e := Psg.noiseStep_running (c := c) (p := q) (by rw [hctr]; exact running)
      change (q.noiseStep c).ctr[3] = _ ∧ (q.noiseStep c).pol[3] = _ ∧ (q.noiseStep c).lfsr = _
      rw [e, ← hctr, ← hpol, ← hlfsr]
      simp
    case out =>
      have written := Psg.emit_getElem? c (q.noiseStep c) ((q.noiseStep c).mix c) (by rw [hwr, hout]; exact h)
      rw [hwr, hout] at written
      refine ⟨(written p.wr).trans ?_, fun k hk => (written k).trans (if_neg hk)⟩
      rw [if_pos rfl, Psg.mix_eq]
      simp only [Psg.voice, hvol]
      rfl
  case nearest =>
    have h := Sample.round_nearest hb (x.inUnits (min x.exponent y.exponent) + y.inUnits (min x.exponent y.exponent)) hw
      (le_min hx hy) hwe hr
    dsimp only at h
    rw [add_mul, ← Sample.inUnits_finer x (le_min hx hy) (min_le_left _ _),
      ← Sample.inUnits_finer y (le_min hx hy) (min_le_right _ _)] at h
    exact h

end Sys2Proof.Machine
end

section
/-! The background of a line and the choice of each pixel (60_exceptions.md rules R468 to R470). -/

namespace Sys2Proof.Machine

section Background
variable (v : Vdp) (ln : Nat)

/-- The horizontal scroll of a line. -/
def Vdp.scrollX : Nat := if v.reg[0].getLsbD 6 = true ∧ ln < 16 then 0 else v.reg[8].toNat

/-- The vertical scroll of a column. -/
def Vdp.scrollY (col : Nat) : Nat := if v.reg[0].getLsbD 7 = true ∧ 24 ≤ col then 0 else v.reg[9].toNat

theorem Vdp.scrollX_lt : v.scrollX ln < 256 := by
  unfold Vdp.scrollX
  split
  · decide
  · exact v.reg[8].isLt

/-- The tile pixel at column `col`, pixel `px` of a line that scrolls by `hs`, from the name-table entry at `nt` (rule
R468). -/
def Vdp.tileAt (hs col px : Nat) : TilePixel :=
  let yy := (ln + v.scrollY col) % 224
  let nt := (v.reg[2].extractLsb' 1 3).toNat * 0x800 + (yy / 8 * 32 + (col + 32 - hs / 8) % 32) * 2
  let e : Word := v.vramAt (nt + 1) ++ v.vramAt nt
  { c := v.patternPixel ((e.extractLsb' 0 9).toNat * 32 + (if e.getLsbD 10 then 7 - yy % 8 else yy % 8) * 4)
      (if e.getLsbD 9 then px else 7 - px)
    pal := e.getLsbD 11
    prio := e.getLsbD 12 }

theorem Vdp.tilePixel_eq (sx : Nat) : v.tilePixel ln sx =
    if sx < v.scrollX ln % 8 then none
    else some (v.tileAt ln (v.scrollX ln) ((sx - v.scrollX ln % 8) / 8) ((sx - v.scrollX ln % 8) % 8)) := by
  unfold Vdp.tileAt Vdp.scrollY Vdp.scrollX Vdp.tilePixel
  simp only [Bool.and_eq_true, decide_eq_true_eq]

/-- The address of the name-table entry of column `col` of a line that scrolls by `hs`. -/
def Vdp.entryAddr (hs col : Nat) : Nat :=
  (v.reg[2].extractLsb' 1 3).toNat * 0x800 +
    ((ln + v.scrollY col) % 224 / 8 * 32 + (((col : Int) - (hs / 8 : Nat)) % 32).toNat) * 2

/-- The name-table entry of column `col` as a number. -/
def Vdp.entry (hs col : Nat) : Nat :=
  256 * (v.vramAt (v.entryAddr ln hs col + 1)).toNat + (v.vramAt (v.entryAddr ln hs col)).toNat

/-- The address of the pattern row that column `col` shows. -/
def Vdp.tileRow (hs col : Nat) : Nat :=
  v.entry ln hs col % 512 * 32 + (if (v.entry ln hs col).testBit 10
    then 7 - (ln + v.scrollY col) % 224 % 8 else (ln + v.scrollY col) % 224 % 8) * 4

/-- The fields of a name-table entry as numbers. -/
theorem Vdp.tileAt_eq {hs : Nat} (h : hs < 256) (col px : Nat) : v.tileAt ln hs col px =
    { c := v.patternPixel (v.tileRow ln hs col) (if (v.entry ln hs col).testBit 9 then px else 7 - px)
      pal := (v.entry ln hs col).testBit 11
      prio := (v.entry ln hs col).testBit 12 } := by
  have column : (col + 32 - hs / 8) % 32 = (((col : Int) - (hs / 8 : Nat)) % 32).toNat := by omega
  have word : (v.vramAt (v.entryAddr ln hs col + 1) ++ v.vramAt (v.entryAddr ln hs col) : Word).toNat =
      v.entry ln hs col := by
    refine (toNat_append_eq_add (v.vramAt (v.entryAddr ln hs col + 1)) (v.vramAt (v.entryAddr ln hs col))).trans ?_
    rw [Vdp.entry]
    omega
  have pattern :
      ((v.vramAt (v.entryAddr ln hs col + 1) ++ v.vramAt (v.entryAddr ln hs col) : Word).extractLsb' 0 9).toNat =
      v.entry ln hs col % 512 := by
    rw [BitVec.extractLsb'_toNat, word]
    rfl
  rw [Vdp.tileRow, ← pattern, ← word, Vdp.tileAt, column]
  rfl

end Background

/-- Settles O28: the column and the pixel of a screen column, and the fields of its name-table entry. -/
theorem backgroundColumns : Obligations.BackgroundColumns := by
  intro v ln hs
  refine ⟨fun sx h => ?_, fun col px hcol hpx hsx => ?_⟩
  · rw [Vdp.tilePixel_eq]
    exact if_pos h
  · have hcolumn : (col * 8 + hs % 8 + px - hs % 8) / 8 = col := by omega
    have hpixel : (col * 8 + hs % 8 + px - hs % 8) % 8 = px := by omega
    have shown : v.tilePixel ln (col * 8 + hs % 8 + px) = some (v.tileAt ln hs col px) := by
      rw [Vdp.tilePixel_eq]
      change (if _ < hs % 8 then _ else some (v.tileAt ln hs ((_ - hs % 8) / 8) ((_ - hs % 8) % 8))) = _
      rw [if_neg (by omega), hcolumn, hpixel]
    rw [Vdp.tileAt_eq v ln (hs := hs) (v.scrollX_lt ln)] at shown
    exact ⟨_, shown, rfl, rfl, v.patternPixel_toNat _ _⟩

/-! The colours of a rendered line. -/

/-- The expansion of a colour, field by field. -/
theorem ofColour_eq (k : BitVec 6) : Rgba.ofColour k =
    { red := BitVec.ofNat 8 (k.toNat % 4 * 85)
      green := BitVec.ofNat 8 (k.toNat / 4 % 4 * 85)
      blue := BitVec.ofNat 8 (k.toNat / 16 * 85)
      alpha := 255#8 } := by
  have := k.isLt
  have top : k.toNat / 16 % 4 = k.toNat / 16 := by omega
  simp only [Rgba.ofColour, BitVec.extractLsb'_toNat, Nat.shiftRight_eq_div_pow]
  rw [← top]
  simp

section Render
variable {v : Vdp} {ln : Nat}

theorem Vdp.renderLine_disabled (h : v.displayEnabled = false) : v.renderLine ln = { v with
    fb := FrameBuffer.setLine v.fb ln ((List.range 256).map fun _ => Rgba.ofColour v.backdrop) } := by
  rw [Vdp.renderLine, h]
  rfl

theorem Vdp.renderLine_enabled (h : v.displayEnabled = true) : v.renderLine ln = { v with
    fb := FrameBuffer.setLine v.fb ln
      ((List.range 256).map fun sx => Rgba.ofColour (v.pixelColour (v.sprites ln) ln sx))
    sprOvf := v.sprOvf || (v.sprites ln).overflow
    sprCol := v.sprCol || (v.sprites ln).collision } := by
  rw [Vdp.renderLine, h]
  rfl

/-- A rendered line replaces that line of FB by its 256 pixels. -/
theorem Vdp.renderLine_fb (v : Vdp) (ln : Nat) :
    ∃ f : Nat → BitVec 6,
      (v.renderLine ln).fb = v.fb.setLine ln ((List.range 256).map fun sx => Rgba.ofColour (f sx)) := by
  cases h : v.displayEnabled with
  | false => exact ⟨fun _ => v.backdrop, by rw [Vdp.renderLine_disabled h]⟩
  | true => exact ⟨_, by rw [Vdp.renderLine_enabled h]⟩

/-- What a pixel of a line shows once the line is given. -/
theorem Vdp.pixel_of_fb {t : Vdp} {fb : FrameBuffer} {f : Nat → BitVec 6}
    (h : t.fb = fb.setLine ln ((List.range 256).map fun sx => Rgba.ofColour (f sx))) {sx : Nat} (hsx : sx < 256) :
    t.pixel ln sx = Rgba.ofColour (f sx) := by
  rw [Vdp.pixel, h, FrameBuffer.line_setLine, List.getD_eq_getElem _ _ (by simpa using hsx)]
  simp

end Render

/-! Which of the sprite, the tile and the backdrop a pixel shows (rule R469). -/

section Choice
variable {v : Vdp} {sl : SpriteLine} {ln sx : Nat}

theorem Vdp.backdrop_eq (v : Vdp) : v.backdrop = v.colour (16 + v.reg[7].toNat % 16) :=
  congrArg (fun k => v.colour (16 + k)) (BitVec.extractLsb'_toNat ..)

theorem Vdp.tileColour_eq (v : Vdp) (b : TilePixel) : v.tileColour b = v.colour (16 * b.pal.toNat + b.c.toNat) := by
  cases h : b.pal <;> simp [Vdp.tileColour, h]

theorem Vdp.pixelColour_sprite {c : BitVec 4} (hs : sl.pixels.lookup sx = some c)
    (ht : ∀ b, v.tilePixel ln sx = some b → ¬(b.prio = true ∧ b.c ≠ 0#4)) :
    v.pixelColour sl ln sx = v.colour (16 + c.toNat) := by
  rw [Vdp.pixelColour, hs]
  cases h : v.tilePixel ln sx with
  | none => rfl
  | some b =>
    have transparent := ht b h
    rw [← decide_eq_true_eq (p := b.c ≠ 0#4), ← Bool.and_eq_true] at transparent
    exact if_neg transparent

theorem Vdp.pixelColour_tile {b : TilePixel} (ht : v.tilePixel ln sx = some b)
    (hs : sl.pixels.lookup sx = none ∨ (b.prio = true ∧ b.c ≠ 0#4)) :
    v.pixelColour sl ln sx = v.colour (16 * b.pal.toNat + b.c.toNat) := by
  rw [← Vdp.tileColour_eq, Vdp.pixelColour, ht]
  cases h : sl.pixels.lookup sx with
  | none => rfl
  | some c =>
    have covers := hs.resolve_left (by rw [h]; exact Option.some_ne_none c)
    rw [← decide_eq_true_eq (p := b.c ≠ 0#4), ← Bool.and_eq_true] at covers
    exact if_pos covers

theorem Vdp.pixelColour_backdrop (hs : sl.pixels.lookup sx = none) (ht : v.tilePixel ln sx = none) :
    v.pixelColour sl ln sx = v.colour (16 + v.reg[7].toNat % 16) := by
  rw [← Vdp.backdrop_eq, Vdp.pixelColour, hs, ht]

end Choice

/-- Settles O29: the line by the display switch, a pixel by the sprite and the tile that stand there. -/
theorem pixelChoice : Obligations.PixelChoice := by
  intro v ln t shows
  obtain ⟨f, hfb⟩ := v.renderLine_fb ln
  refine ⟨v.renderLine_eq ln, fun k hk => ?_, ?_, fun off => ?_, fun on => ?_⟩
  · exact (congrArg (FrameBuffer.line · k) hfb).trans (FrameBuffer.line_setLine_ne _ _ hk)
  · exact (congrArg (fun fb => (FrameBuffer.line fb ln).length) hfb).trans (by simp)
  · have rendered := Vdp.renderLine_disabled (ln := ln) off
    refine ⟨fun sx hsx => (Vdp.pixel_of_fb (congrArg Vdp.fb rendered) hsx).trans ?_,
      (congrArg Vdp.sprOvf rendered :), (congrArg Vdp.sprCol rendered :)⟩
    rw [ofColour_eq, Vdp.backdrop_eq]
  · have rendered := Vdp.renderLine_enabled (ln := ln) on
    have shown {sx k : Nat} (hsx : sx < 256) (e : v.pixelColour (v.sprites ln) ln sx = v.colour k) : shows sx k :=
      (Vdp.pixel_of_fb (congrArg Vdp.fb rendered) hsx).trans (by rw [e, ofColour_eq])
    exact ⟨(congrArg Vdp.sprOvf rendered :), (congrArg Vdp.sprCol rendered :), fun sx hsx =>
      ⟨fun c hs ht => shown hsx (Vdp.pixelColour_sprite hs ht), fun b ht hs => shown hsx (Vdp.pixelColour_tile ht hs),
        fun hs ht => shown hsx (Vdp.pixelColour_backdrop hs ht)⟩⟩

end Sys2Proof.Machine
end

section
/-! Frames of the operations that effects are written over (Safety.lean): the pieces of state that each can change. -/

namespace Sys2Proof.Machine

theorem State.changesOnly.cost {s t : State} {ps : List Part} (h : s.changesOnly t ps) (n : Nat) :
    s.changesOnly { t with cost := n } ps :=
  State.changesOnly_of fun p hp => by cases p <;> exact h.1 _ hp

/-- Two changes one after the other. -/
theorem State.changesOnly.append {s t u : State} {ps qs : List Part} (h : s.changesOnly t ps) (k : t.changesOnly u qs) :
    s.changesOnly u (ps ++ qs) :=
  (h.mono fun _ => List.mem_append_left qs).trans (k.mono fun _ => List.mem_append_right ps)

section Operations
variable (s : State)

theorem State.changesOnly_setA (v : Byte) : s.changesOnly (s.setA v) [.a] := by
  refine State.changesOnly_of fun p hp => ?_
  cases p
  case a => simp at hp
  all_goals rfl

theorem State.changesOnly_setFlags (fl : Flags) : s.changesOnly (s.setFlags fl) [.f] := by
  refine State.changesOnly_of fun p hp => ?_
  cases p
  case f => simp at hp
  all_goals rfl

theorem State.changesOnly_setReg (r : Reg8) (v : Byte) : s.changesOnly (s.setReg r v) [regPart r] := by
  refine State.changesOnly_of fun p hp => ?_
  cases r <;> cases p <;> first | rfl | simp [regPart] at hp

theorem State.changesOnly_setBC (v : Word) : s.changesOnly (s.setBC v) [.b, .c] := by
  refine State.changesOnly_of fun p hp => ?_
  cases p
  case b | c => simp at hp
  all_goals rfl

theorem State.changesOnly_setDE (v : Word) : s.changesOnly (s.setDE v) [.d, .e] := by
  refine State.changesOnly_of fun p hp => ?_
  cases p
  case d | e => simp at hp
  all_goals rfl

theorem State.changesOnly_setHL (v : Word) : s.changesOnly (s.setHL v) [.h, .l] := by
  refine State.changesOnly_of fun p hp => ?_
  cases p
  case h | l => simp at hp
  all_goals rfl

theorem State.changesOnly_setAF (v : Word) : s.changesOnly (s.setAF v) [.a, .f] := by
  refine State.changesOnly_of fun p hp => ?_
  cases p
  case a | f => simp at hp
  all_goals rfl

theorem State.changesOnly_setSP (v : Word) : s.changesOnly { s with sp := v } [.sp] := by
  refine State.changesOnly_of fun p hp => ?_
  cases p
  case sp => simp at hp
  all_goals rfl

theorem State.changesOnly_setPC (v : Word) : s.changesOnly { s with pc := v } [.pc] := by
  refine State.changesOnly_of fun p hp => ?_
  cases p
  case pc => simp at hp
  all_goals rfl

theorem State.changesOnly_setPair (r : Reg16) (v : Word) : s.changesOnly (s.setPair r v) (pairParts r) := by
  cases r
  · exact s.changesOnly_setBC v
  · exact s.changesOnly_setDE v
  · exact s.changesOnly_setHL v
  · exact s.changesOnly_setSP v

theorem State.changesOnly_setStk (k : Stk16) (v : Word) : s.changesOnly (s.setStk k v) (stkParts k) := by
  cases k
  · exact s.changesOnly_setBC v
  · exact s.changesOnly_setDE v
  · exact s.changesOnly_setHL v
  · exact s.changesOnly_setAF v

theorem State.changesOnly_setIndex (x : Idx) (v : Word) : s.changesOnly (s.setIndex x v) [idxPart x] := by
  refine State.changesOnly_of fun p hp => ?_
  cases x <;> cases p <;> first | rfl | simp [idxPart] at hp

theorem State.changesOnly_setHalf (x : Idx) (h : Half) (v : Byte) : s.changesOnly (s.setHalf x h v) [idxPart x] := by
  cases h
  · exact s.changesOnly_setIndex x _
  · exact s.changesOnly_setIndex x _

theorem State.changesOnly_setXreg (x : Idx) (r : XReg8) (v : Byte) :
    s.changesOnly (s.setXreg x r v) [xregPart x r] := by
  cases r
  case xh =>
    have part : xregPart x .xh = idxPart x := by cases x <;> rfl
    exact part ▸ s.changesOnly_setHalf x .high v
  case xl =>
    have part : xregPart x .xl = idxPart x := by cases x <;> rfl
    exact part ▸ s.changesOnly_setHalf x .low v
  all_goals exact s.changesOnly_setReg _ v

theorem State.changesOnly_memWrite (a : Word) (v : Byte) : s.changesOnly (s.memWrite a v) [.bus] := by
  refine State.changesOnly_of fun p hp => ?_
  cases p
  case bus => simp at hp
  all_goals rfl

theorem State.changesOnly_memWrite16 (a v : Word) : s.changesOnly (s.memWrite16 a v) [.bus] :=
  (s.changesOnly_memWrite a (loByte v)).trans (State.changesOnly_memWrite _ (a + 1#16) (hiByte v))

theorem State.changesOnly_push16 (v : Word) : s.changesOnly (s.push16 v) [.sp, .bus] := by
  refine State.changesOnly_of fun p hp => ?_
  cases p
  case sp | bus => simp at hp
  all_goals rfl

theorem State.changesOnly_draw : s.changesOnly s.draw.2 [.draws] := by
  refine State.changesOnly_of fun p hp => ?_
  cases p
  case draws => simp at hp
  all_goals rfl

theorem State.changesOnly_ioRead (port : Byte) : s.changesOnly (s.ioRead port).2 [.vdp, .draws] := by
  refine State.changesOnly_of fun p hp => ?_
  unfold State.ioRead
  split <;> (try split) <;> cases p <;> first | rfl | simp at hp

theorem State.changesOnly_ioWrite (port v : Byte) : s.changesOnly (s.ioWrite port v) [.bus, .vdp, .psg] := by
  refine State.changesOnly_of fun p hp => ?_
  unfold State.ioWrite
  split <;> (try split) <;> cases p <;> first | rfl | simp at hp

end Operations

end Sys2Proof.Machine
end

section
/-! The loads, the stores and the exchanges (40_load8.md, 41_load16_stack_exchange.md). -/

namespace Sys2Proof.Machine

/-- Settles O34: every form is the write of one register. -/
theorem loadRegister : Obligations.LoadRegister := by
  intro s px r src n d nn q hq
  have effect : exec q.1 s = done q.2.2.2 (s.setReg q.2.1 q.2.2.1) := by
    fin_cases hq <;> rfl
  exact ⟨_, effect, rfl, s.reg_setReg _ _, (s.changesOnly_setReg _ _).cost _⟩

/-- Settles O35: every form is the write of one byte. -/
theorem storeByte : Obligations.StoreByte := by
  intro s px r n d nn q hq
  have effect : exec q.1 s = done q.2.2.2 (s.memWrite q.2.1 q.2.2.1) := by
    fin_cases hq <;> rfl
  exact ⟨_, effect, rfl, Bus.write_storesByte .., (s.changesOnly_memWrite _ _).cost _⟩

section Halves
variable (s : State) (x : Idx)

theorem State.hiByte_setXreg {dst : XReg8} (h : dst ≠ .xh) (v : Byte) :
    hiByte ((s.setXreg x dst v).index x) = hiByte (s.index x) := by
  cases dst
  case xh => exact absurd rfl h
  case xl => simp [State.setXreg, State.setHalf]
  all_goals cases x <;> rfl

theorem State.loByte_setXreg {dst : XReg8} (h : dst ≠ .xl) (v : Byte) :
    loByte ((s.setXreg x dst v).index x) = loByte (s.index x) := by
  cases dst
  case xh => simp [State.setXreg, State.setHalf]
  case xl => exact absurd rfl h
  all_goals cases x <;> rfl

end Halves

/-- Settles O36: every form is the write of one register or half. -/
theorem loadIndexHalf : Obligations.LoadIndexHalf := by
  refine ⟨fun s dst src x i hi => ?_, fun s n x i hi => ?_⟩
  · have effect : exec i s = done 8 (s.setXreg x dst (s.xreg x src)) := by
      simp only [List.mem_cons, Prod.mk.injEq, List.not_mem_nil, or_false] at hi
      rcases hi with ⟨rfl, rfl⟩ | ⟨rfl, rfl⟩ <;> rfl
    refine ⟨_, effect, rfl, ?_, (s.changesOnly_setXreg x dst _).cost 8, fun h => ?_, fun h => ?_⟩
    · rw [State.xreg_cost, State.xreg_setXreg]
    · rw [State.index_cost, s.hiByte_setXreg x h]
    · rw [State.index_cost, s.loByte_setXreg x h]
  · have effect (h : Half) : exec (i h) s = done 11 (s.setHalf x h n) := by
      simp only [List.mem_cons, Prod.mk.injEq, List.not_mem_nil, or_false] at hi
      rcases hi with ⟨rfl, rfl⟩ | ⟨rfl, rfl⟩ <;> rfl
    refine ⟨⟨_, effect .high, rfl, ?_, (s.changesOnly_setHalf x .high n).cost 11⟩,
      ⟨_, effect .low, rfl, ?_, (s.changesOnly_setHalf x .low n).cost 11⟩⟩
    · exact (State.index_cost _ _ _).trans (s.index_setIndex x _)
    · exact (State.index_cost _ _ _).trans (s.index_setIndex x _)

/-- Settles O37: `LD A,I` and `LD A,R` by the flags of rule R154, the others by their definition. -/
theorem loadInterruptAndRefresh : Obligations.LoadInterruptAndRefresh := by
  intro s
  refine ⟨fun q hq => ?_, ⟨_, rfl, rfl, rfl, ?_⟩, ⟨_, rfl, rfl, rfl, ?_⟩⟩
  · have effect : exec q.1 s = done 9 ((s.setA q.2).setFlags (ldAirFlags s.flags q.2 s.iff2)) := by
      fin_cases hq <;> rfl
    exact ⟨_, effect, rfl, rfl, Flags.bits _,
      ((s.changesOnly_setA _).append (State.changesOnly_setFlags _ _)).cost 9⟩
  · refine State.changesOnly_of fun p hp => ?_
    cases p
    case i => simp at hp
    all_goals rfl
  · refine State.changesOnly_of fun p hp => ?_
    cases p
    case r => simp at hp
    all_goals rfl

/-! 16-bit loads by destination. -/

/-- A load of 16 bits: where the destination reads its value, the cost, and that only the pieces named change. -/
def State.LoadsWide (s : State) (r : Result State) (read : State → Word) (ps : List Part) (k n : Nat) : Prop :=
  ∃ t, r = .next t ∧ t.cost = n ∧ (read t).toNat = k ∧ s.changesOnly t ps

section Wide
variable (s : State) {v : Word} {k : Nat} (n : Nat)

theorem State.loadsWide_setPair (p : Reg16) (h : v.toNat = k) :
    s.LoadsWide (done n (s.setPair p v)) (State.pair · p) (pairParts p) k n :=
  ⟨_, rfl, rfl, (congrArg BitVec.toNat ((State.pair_cost _ n p).trans (s.pair_setPair p v))).trans h,
    (s.changesOnly_setPair p v).cost n⟩

theorem State.loadsWide_ix (h : v.toNat = k) : s.LoadsWide (done n (s.setIndex .ix v)) State.ix [.ix] k n :=
  ⟨_, rfl, rfl, h, (s.changesOnly_setIndex .ix v).cost n⟩

theorem State.loadsWide_iy (h : v.toNat = k) : s.LoadsWide (done n (s.setIndex .iy v)) State.iy [.iy] k n :=
  ⟨_, rfl, rfl, h, (s.changesOnly_setIndex .iy v).cost n⟩

theorem State.loadsWide_sp (h : v.toNat = k) : s.LoadsWide (done n { s with sp := v }) State.sp [.sp] k n :=
  ⟨_, rfl, rfl, h, (s.changesOnly_setSP v).cost n⟩

end Wide

theorem toNat_add_one (v : Word) : (v + 1#16).toNat = (v.toNat + 1) % 65536 := BitVec.toNat_add _ _

theorem toNat_sub_one (v : Word) : (v - 1#16).toNat = (v.toNat + 65535) % 65536 := by
  rw [BitVec.toNat_sub, Nat.add_comm]
  rfl

/-- Settles O38: every form is the load of one destination. -/
theorem loadWide : Obligations.LoadWide := by
  intro s px p nn q at_ hq
  have fromMemory : (s.memRead16 nn).toNat = at_ := mkWord_toNat _ _
  fin_cases hq
  · exact s.loadsWide_setPair _ p rfl
  · exact s.loadsWide_setPair _ .hl fromMemory
  · exact s.loadsWide_setPair _ p fromMemory
  · exact s.loadsWide_ix _ rfl
  · exact s.loadsWide_iy _ rfl
  · exact s.loadsWide_ix _ fromMemory
  · exact s.loadsWide_iy _ fromMemory
  · exact s.loadsWide_sp _ (mkWord_toNat _ _)
  · exact s.loadsWide_sp _ rfl
  · exact s.loadsWide_sp _ rfl
  · exact s.loadsWide_setPair _ p (toNat_add_one _)
  · exact s.loadsWide_setPair _ p (toNat_sub_one _)
  · exact s.loadsWide_ix _ (toNat_add_one _)
  · exact s.loadsWide_iy _ (toNat_add_one _)
  · exact s.loadsWide_ix _ (toNat_sub_one _)
  · exact s.loadsWide_iy _ (toNat_sub_one _)

/-! 16-bit stores and pushes. -/

section StoreWide
variable (s : State) (n : Nat) (v : Word)

theorem State.storesWide_memWrite16 (a : Word) : ∃ t, done n (s.memWrite16 a v) = .next t ∧ t.cost = n ∧ t.sp = s.sp ∧
    s.bus.storesWord t.bus a (hiByte v) (loByte v) ∧ s.changesOnly t [.bus, .sp] :=
  ⟨_, rfl, rfl, rfl, s.memWrite16_storesWord a v, ((s.changesOnly_memWrite16 a v).mono (by simp)).cost n⟩

theorem State.push16_sp_eq : (s.push16 v).sp = s.sp - 2#16 := by
  rw [State.push16_sp]
  bv_omega

theorem State.storesWide_push16 : ∃ t, done n (s.push16 v) = .next t ∧ t.cost = n ∧ t.sp = s.sp - 2#16 ∧
    s.bus.storesWord t.bus (s.sp - 2#16) (hiByte v) (loByte v) ∧ s.changesOnly t [.bus, .sp] :=
  ⟨_, rfl, rfl, s.push16_sp_eq v, s.push16_storesWord v, ((s.changesOnly_push16 v).mono (by simp)).cost n⟩

end StoreWide

/-- Settles O39: every form is a 16-bit store or a push. -/
theorem storeWide : Obligations.StoreWide := by
  intro s px p k nn q hq
  fin_cases hq
  iterate 4 exact s.storesWide_memWrite16 _ _ _
  all_goals exact s.storesWide_push16 _ _

/-! The exchanges. -/

/-- An exchange with the top of the stack leaves the two bytes of the register there. -/
theorem State.exchangeTop_storesWord (s : State) (v : Word) :
    s.bus.storesWord (s.exchangeTop v).2.bus s.sp (hiByte v) (loByte v) := Bus.write_high_low ..

theorem State.changesOnly_exchangeTop (s : State) (v : Word) : s.changesOnly (s.exchangeTop v).2 [.bus] :=
  (s.changesOnly_memWrite _ _).trans (State.changesOnly_memWrite _ _ _)

/-- Settles O40: the register exchanges by their definition, those with the stack by one 16-bit read and store. -/
theorem exchanges : Obligations.Exchanges := by
  refine ⟨fun s px => ⟨?de, ⟨_, rfl, rfl, rfl, rfl, rfl, ?_⟩, ⟨_, rfl, rfl, rfl, rfl, ?_⟩⟩, fun s q hq => ?_⟩
  case de =>
    refine ⟨_, rfl, rfl, hiByte_mkWord _ _, loByte_mkWord _ _, hiByte_mkWord _ _, loByte_mkWord _ _, ?_⟩
    exact ((s.changesOnly_setDE _).append (State.changesOnly_setHL _ _)).cost _
  · refine State.changesOnly_of fun p hp => ?_
    cases p
    case a | f | shadow => simp at hp
    all_goals rfl
  · refine State.changesOnly_of fun p hp => ?_
    cases p
    case b | c | d | e | h | l | shadow => simp at hp
    all_goals rfl
  · fin_cases hq
    · refine ⟨_, rfl, rfl, ?_, s.exchangeTop_storesWord s.main.hl,
        ((s.changesOnly_exchangeTop _).append (State.changesOnly_setHL _ _)).cost _⟩
      exact (congrArg BitVec.toNat (mkWord_hiByte_loByte _)).trans (mkWord_toNat _ _)
    · exact ⟨_, rfl, rfl, mkWord_toNat _ _, s.exchangeTop_storesWord s.ix,
        ((s.changesOnly_exchangeTop _).append (State.changesOnly_setIndex _ .ix _)).cost _⟩
    · exact ⟨_, rfl, rfl, mkWord_toNat _ _, s.exchangeTop_storesWord s.iy,
        ((s.changesOnly_exchangeTop _).append (State.changesOnly_setIndex _ .iy _)).cost _⟩

end Sys2Proof.Machine
end

section
/-! 8-bit and 16-bit arithmetic and logic (42_alu8.md, 43_alu16.md). -/

namespace Sys2Proof.Machine

/-- A result in A and F. -/
def State.setResult (s : State) (r : Byte × Flags) : State := (s.setA r.1).setFlags r.2

theorem State.changesOnly_setResult (s : State) (r : Byte × Flags) : s.changesOnly (s.setResult r) [.a, .f] :=
  (s.changesOnly_setA r.1).append (State.changesOnly_setFlags _ r.2)

/-- Settles O41: every form is one 8-bit addition. -/
theorem addToA : Obligations.AddToA := by
  intro s px r n d h q cy atHL atIX atIY hq
  have effect : exec q.1 s = done q.2.2.2 (s.setResult (add8 s.main.a q.2.1 q.2.2.1)) := by
    fin_cases hq <;> rfl
  exact ⟨_, effect, rfl, add8_value _ _ _, add8_flags _ _ _, (s.changesOnly_setResult _).cost _⟩

/-- Settles O42: every form is one 8-bit subtraction. -/
theorem subFromA : Obligations.SubFromA := by
  intro s px r n d h y q cy a atHL atIX atIY hq
  have effect : exec q.1 s = done q.2.2.2.2 (s.setResult (sub8 q.2.1 q.2.2.1 q.2.2.2.1)) := by
    fin_cases hq <;> rfl
  exact ⟨_, effect, rfl, sub8_value _ _ _, sub8_flags _ _ _, (s.changesOnly_setResult _).cost _⟩

/-- Settles O43: every form is one logical result. -/
theorem logicOnA : Obligations.LogicOnA := by
  intro s px r n d h q a atHL atIX atIY hq
  have effect : exec q.1 s = done q.2.2.2 (s.setResult (logic8 q.2.1 q.2.2.1)) := by
    fin_cases hq <;> rfl
  exact ⟨_, effect, rfl, rfl, logic8_flags _ _, (s.changesOnly_setResult _).cost _⟩

/-- The bits of a packed byte whose Y and X are taken from elsewhere. -/
theorem Flags.yx_bits {fl : Flags} {s z y h x pv n c : Bool} (bits : flagBits fl.toByte s z y h x pv n c) (v : Byte) :
    flagBits (fl.yx v).toByte s z (v.getLsbD 5) h (v.getLsbD 3) pv n c := by
  obtain ⟨hs, hz, -, hh, -, hpv, hn, hc⟩ := bits
  obtain ⟨bs, bz, -, bh, -, bpv, bn, bc⟩ := fl.bits
  exact Flags.bits_of _ (bs.symm.trans hs) (bz.symm.trans hz) rfl (bh.symm.trans hh) rfl (bpv.symm.trans hpv)
    (bn.symm.trans hn) (bc.symm.trans hc)

/-- The flags of a comparison (rule R209). -/
theorem compare_flags (a b : Byte) : flagBits ((sub8 a b false).2.yx b).toByte
    (decide (128 ≤ ((a.toNat : Int) - b.toNat) % 256)) (decide (a = b)) (b.getLsbD 5)
    (decide (a.toNat % 16 < b.toNat % 16)) (b.getLsbD 3)
    (decide (a.toInt - b.toInt < -128 ∨ 127 < a.toInt - b.toInt)) true (decide (a.toNat < b.toNat)) := by
  have bits := Flags.yx_bits (sub8_flags a b false) b
  have zero : ((a.toNat : Int) - b.toNat) % 256 = 0 ↔ a = b := by
    rw [← BitVec.toNat_inj]
    omega
  have carry : (a.toNat : Int) - b.toNat < 0 ↔ a.toNat < b.toNat := by omega
  simpa only [Bool.toNat_false, Nat.cast_zero, sub_zero, Nat.add_zero, zero, carry] using bits

/-- Settles O44: every form is one subtraction of which F alone is kept, with Y and X of the operand. -/
theorem compareWithA : Obligations.CompareWithA := by
  intro s px r n d h q hq
  have effect : exec q.1 s = done q.2.2 (s.setFlags ((sub8 s.main.a q.2.1 false).2.yx q.2.1)) := by
    fin_cases hq <;> rfl
  exact ⟨_, effect, rfl, compare_flags _ _, (s.changesOnly_setFlags _).cost _⟩

/-! INC and DEC. -/

/-- INC or DEC of 8 bits. -/
def count8 (down : Bool) (v : Byte) (fl : Flags) : Byte × Flags := if down then dec8 v fl else inc8 v fl

theorem count8_value (down : Bool) (v : Byte) (fl : Flags) :
    (count8 down v fl).1.toNat = (if down then v.toNat + 255 else v.toNat + 1) % 256 := by
  cases down
  · exact inc8_value v fl
  · exact dec8_value v fl

theorem count8_flags (down : Bool) (v f : Byte) :
    let r := count8 down v (Flags.ofByte f)
    flagBits r.2.toByte (decide (128 ≤ r.1.toNat)) (decide (r.1.toNat = 0)) (r.1.getLsbD 5)
      (decide (v.toNat % 16 = if down then 0 else 15)) (r.1.getLsbD 3)
      (decide (v.toNat = if down then 128 else 127)) down (f.getLsbD 0) := by
  cases down
  · exact inc8_flags v f
  · exact dec8_flags v f

/-- Settles O45: every form is one count, in a register, in a half or in memory. -/
theorem incDecByte : Obligations.IncDecByte := by
  intro s flags
  have counted (down : Bool) (v : Byte) : flags v (count8 down v s.flags).1 down (count8 down v s.flags).2.toByte :=
    ⟨count8_value down v s.flags, count8_flags down v s.main.f⟩
  refine ⟨fun px r q hq => ?register, fun x h k i down hi => ?half, fun d q hq => ?memory⟩
  case register =>
    let result := count8 q.2 (s.reg r) s.flags
    have effect : exec q.1 s = done (4 + px.extra) ((s.setReg r result.1).setFlags result.2) := by
      fin_cases hq <;> rfl
    have value : ((s.setReg r result.1).setFlags result.2).reg r = result.1 :=
      (State.reg_setFlags _ _ r).trans (s.reg_setReg r _)
    exact ⟨_, effect, rfl, (congrArg (flags (s.reg r) · q.2 _) value).mpr (counted q.2 (s.reg r)),
      ((s.changesOnly_setReg r _).append (State.changesOnly_setFlags _ _)).cost _⟩
  case half =>
    let result := count8 down (s.half x h) s.flags
    have effect : exec i s = done 8 ((s.setHalf x h result.1).setFlags result.2) := by
      simp only [List.mem_cons, Prod.mk.injEq, List.not_mem_nil, or_false] at hi
      rcases hi with ⟨rfl, rfl, rfl⟩ | ⟨rfl, rfl, rfl⟩ | ⟨rfl, rfl, rfl⟩ | ⟨rfl, rfl, rfl⟩ <;> rfl
    have value : ((s.setHalf x h result.1).setFlags result.2).half x h = result.1 :=
      (State.half_setFlags _ _ x h).trans (s.half_setHalf x h _)
    have other (hk : k ≠ h) : ((s.setHalf x h result.1).setFlags result.2).half x k = s.half x k :=
      (State.half_setFlags _ _ x k).trans (s.half_setHalf_other x _ hk)
    refine ⟨_, effect, rfl, ?_, fun hk => (State.half_cost _ 8 x k).trans (other hk),
      ((s.changesOnly_setHalf x h _).append (State.changesOnly_setFlags _ _)).cost _⟩
    exact (congrArg (flags (s.half x h) · down _) ((State.half_cost _ 8 x h).trans value)).mpr
      (counted down (s.half x h))
  case memory =>
    let result := count8 q.2.2.1 (s.memRead q.2.1) s.flags
    have effect : exec q.1 s = done q.2.2.2 ((s.memWrite q.2.1 result.1).setFlags result.2) := by
      fin_cases hq <;> rfl
    exact ⟨_, result.1, effect, rfl, counted _ _, Bus.write_storesByte ..,
      ((s.changesOnly_memWrite _ _).append (State.changesOnly_setFlags _ _)).cost _⟩

/-- Settles O46: DAA by rule R218's correction, the others by their flags. -/
theorem accumulatorOps : Obligations.AccumulatorOps := by
  intro s px a f six sixty
  exact ⟨⟨_, rfl, rfl, daa8_value a s.flags, daa8_flags a f, (s.changesOnly_setResult (daa8 a s.flags)).cost _⟩,
    ⟨_, rfl, rfl, BitVec.toNat_not, Flags.bits _,
      ((s.changesOnly_setA _).append (State.changesOnly_setFlags _ _)).cost _⟩,
    ⟨_, rfl, rfl, Flags.bits _, (s.changesOnly_setFlags _).cost _⟩,
    ⟨_, rfl, rfl, Flags.bits _, (s.changesOnly_setFlags _).cost _⟩⟩

/-! 16-bit arithmetic. -/

section Wide
variable (s : State) (a b : Word)

/-- The frame of a 16-bit result in HL and F. -/
theorem State.changesOnly_setHL_setFlags (v : Word) (fl : Flags) :
    s.changesOnly ((s.setHL v).setFlags fl) [.h, .l, .f] :=
  (s.changesOnly_setHL v).append (State.changesOnly_setFlags _ fl)

/-- The frame of a 16-bit result in an index register and F. -/
theorem State.changesOnly_setIndex_setFlags (x : Idx) (v : Word) (fl : Flags) :
    s.changesOnly ((s.setIndex x v).setFlags fl) [idxPart x, .f] :=
  (s.changesOnly_setIndex x v).append (State.changesOnly_setFlags _ fl)

/-- HL holds what is written there, whatever the flags and the cost. -/
theorem State.pair_hl_setHL (v : Word) (fl : Flags) (n : Nat) :
    State.pair { (s.setHL v).setFlags fl with cost := n } .hl = v := mkWord_hiByte_loByte v

/-- The operand of `ADD XY,rp`: XY itself in the place of HL. -/
theorem State.xpair_eq (x : Idx) (p : Reg16) : s.xpair x p = if p = .hl then s.index x else s.pair p := by
  cases p <;> rfl

section
variable {s a b}

theorem exec_addIXRp {p : Reg16} (h : s.xpair .ix p = b) : exec (.addIXRp p) s =
    done 15 ((s.setIndex .ix (add16 s.ix b s.flags).1).setFlags (add16 s.ix b s.flags).2) := by
  subst h
  rfl

theorem exec_addIYRp {p : Reg16} (h : s.xpair .iy p = b) : exec (.addIYRp p) s =
    done 15 ((s.setIndex .iy (add16 s.iy b s.flags).1).setFlags (add16 s.iy b s.flags).2) := by
  subst h
  rfl

/-- The value and the flags of a 16-bit addition (rule R240), wherever the sum is read. -/
theorem add16_holds {w : Word} {f : Byte} (value : w = (add16 a b s.flags).1)
    (flags : f = (add16 a b s.flags).2.toByte) :
    w.toNat = (a.toNat + b.toNat) % 65536 ∧
      flagBits f (s.main.f.getLsbD 7) (s.main.f.getLsbD 6) (w.getLsbD 13)
        (decide (4095 < a.toNat % 4096 + b.toNat % 4096)) (w.getLsbD 11) (s.main.f.getLsbD 2) false
        (decide (65535 < a.toNat + b.toNat)) := by
  rw [value, flags]
  exact ⟨add16_value a b s.flags, add16_flags a b s.main.f⟩

end

end Wide

/-- Settles O47: every form is one 16-bit sum or difference. -/
theorem wideArithmetic : Obligations.WideArithmetic := by
  intro s p f cy hl
  refine ⟨fun q hq => ?add, ⟨_, rfl, rfl, ?adc⟩, ⟨_, rfl, rfl, ?sbc⟩⟩
  case add =>
    fin_cases hq
    · obtain ⟨value, flags⟩ := add16_holds (s.pair_hl_setHL (add16 hl (s.pair p) s.flags).1 _ 11) rfl
      exact ⟨_, rfl, rfl, value, flags, ((s.changesOnly_setHL_setFlags _ _).mono (by simp)).cost 11⟩
    · obtain ⟨value, flags⟩ := add16_holds (s := s) (a := s.ix) rfl rfl
      exact ⟨_, exec_addIXRp (s.xpair_eq .ix p), rfl, value, flags,
        ((s.changesOnly_setIndex_setFlags .ix _ _).mono (by simp [idxPart])).cost 15⟩
    · obtain ⟨value, flags⟩ := add16_holds (s := s) (a := s.iy) rfl rfl
      exact ⟨_, exec_addIYRp (s.xpair_eq .iy p), rfl, value, flags,
        ((s.changesOnly_setIndex_setFlags .iy _ _).mono (by simp [idxPart])).cost 15⟩
  case adc =>
    rw [State.pair_hl_setHL]
    exact ⟨adc16_value .., adc16_flags .., (s.changesOnly_setHL_setFlags _ _).cost 15⟩
  case sbc =>
    rw [State.pair_hl_setHL]
    exact ⟨sbc16_value .., sbc16_flags .., (s.changesOnly_setHL_setFlags _ _).cost 15⟩

end Sys2Proof.Machine
end

section
/-! Rotates, shifts and bits (44_rotate_shift_bit.md). -/

namespace Sys2Proof.Machine

/-! The flags, each in terms of the packed byte they come from. -/

theorem rotAFlags_bits (op : Rot) (a f : Byte) (c : Bool) :
    let r := rotate op a c
    flagBits (rotAFlags (Flags.ofByte f) r.1 r.2).toByte (f.getLsbD 7) (f.getLsbD 6) (r.1.getLsbD 5) false
      (r.1.getLsbD 3) (f.getLsbD 2) false (shiftedOut op a.toNat) :=
  Flags.bits_of _ rfl rfl rfl rfl rfl rfl rfl (rotate_carry op a c)

theorem rotate_bits (op : Rot) (v : Byte) (c : Bool) :
    let r := rotate op v c
    flagBits (rotFlags r.1 r.2).toByte (r.1.getLsbD 7) (decide (r.1 = 0#8)) (r.1.getLsbD 5) false (r.1.getLsbD 3)
      (decide (ones r.1 % 2 = 0)) false (shiftedOut op v.toNat) :=
  (rotate_carry op v c) ▸ rotFlags_bits _ _

theorem digitFlags_bits (a f : Byte) : flagBits (digitFlags (Flags.ofByte f) a).toByte (a.getLsbD 7) (decide (a = 0#8))
    (a.getLsbD 5) false (a.getLsbD 3) (decide (ones a % 2 = 0)) false (f.getLsbD 0) :=
  Flags.bits_of _ rfl rfl rfl rfl rfl (parity_ones a) rfl rfl

/-- Settles O48: every form is one rotate of a register. -/
theorem rotateRegister : Obligations.RotateRegister := by
  refine ⟨fun s px q hq => ?accumulator, fun s r q hq => ?register⟩
  case accumulator =>
    have effect : exec q.1 s = done (4 + px.extra) (s.rotateA q.2) := by
      fin_cases hq <;> rfl
    exact ⟨_, effect, rfl, rotate_value _ _ _, rotAFlags_bits _ _ _ _,
      ((s.changesOnly_setA _).append (State.changesOnly_setFlags _ _)).cost _⟩
  case register =>
    let result := rotate q.2 (s.reg r) s.flags.c
    have effect : exec q.1 s = done 8 ((s.setReg r result.1).setFlags (rotFlags result.1 result.2)) := by
      fin_cases hq <;> rfl
    have value : State.reg { (s.setReg r result.1).setFlags (rotFlags result.1 result.2) with cost := 8 } r =
        result.1 := (State.reg_setFlags _ _ r).trans (s.reg_setReg r _)
    refine ⟨_, effect, rfl, ?_, ?_, ((s.changesOnly_setReg r _).append (State.changesOnly_setFlags _ _)).cost 8⟩
    · rw [value]
      exact rotate_value _ _ _
    · rw [value, ← eq_zero8]
      exact rotate_bits _ _ _

/-- Settles O49: every form is one rotate of a byte in memory, and a copy form writes it to a register too. -/
theorem rotateMemory : Obligations.RotateMemory := by
  intro s d rot r q hl ixd iyd hq
  let result := rotate q.2.1 (s.memRead q.2.2.1) s.flags.c
  have effect : (q.2.2.2.1 = [] ∧ exec q.1 s = done q.2.2.2.2
        ((s.memWrite q.2.2.1 result.1).setFlags (rotFlags result.1 result.2))) ∨
      (q.2.2.2.1 = [regPart r] ∧ exec q.1 s = done q.2.2.2.2
        (((s.memWrite q.2.2.1 result.1).setReg r result.1).setFlags (rotFlags result.1 result.2))) := by
    fin_cases hq
    iterate 24 exact .inl ⟨rfl, rfl⟩
    all_goals exact .inr ⟨rfl, rfl⟩
  obtain ⟨parts, effect⟩ | ⟨parts, effect⟩ := effect <;> rw [parts]
  · exact ⟨_, result.1, effect, rfl, rotate_value _ _ _, Bus.write_storesByte .., fun h => absurd rfl h,
      rotate_bits _ _ _, ((s.changesOnly_memWrite _ _).append (State.changesOnly_setFlags _ _)).cost _⟩
  · have copy : (((s.memWrite q.2.2.1 result.1).setReg r result.1).setFlags (rotFlags result.1 result.2)).reg r =
        result.1 := (State.reg_setFlags _ _ r).trans (State.reg_setReg _ r _)
    have frame := (((s.changesOnly_memWrite q.2.2.1 result.1).append (State.changesOnly_setReg _ r result.1)).append
      (State.changesOnly_setFlags _ (rotFlags result.1 result.2))).cost q.2.2.2.2
    exact ⟨_, result.1, effect, rfl, rotate_value _ _ _, Bus.write_storesByte .., fun _ => copy, rotate_bits _ _ _,
      frame.mono (by simp)⟩

/-! BIT, SET and RES. -/

theorem bitFlags_bits (b : BitVec 3) (v w f : Byte) : flagBits (bitFlags (Flags.ofByte f) b v w).toByte
    (decide (b = 7#3) && v.getLsbD b.toNat) (!v.getLsbD b.toNat) (w.getLsbD 5) true (w.getLsbD 3)
    (!v.getLsbD b.toNat) false (f.getLsbD 0) := Flags.bits _

/-- Settles O50: every form is one test, with Y and X from the register, from the address or drawn. -/
theorem bitTest : Obligations.BitTest := by
  intro s b z r d f sign zero
  refine ⟨⟨_, rfl, rfl, bitFlags_bits _ _ _ _, (s.changesOnly_setFlags _).cost 8⟩,
    ⟨_, s.draw.1, rfl, rfl, bitFlags_bits _ _ _ _,
      (((s.changesOnly_draw.append (State.changesOnly_setFlags _ _)).mono (by simp)).cost 12)⟩, fun q hq => ?_⟩
  have effect : exec q.1 s = done 20 (s.setFlags (bitFlags s.flags b (s.memRead q.2) (hiByte q.2))) := by
    fin_cases hq <;> rfl
  have high (k : Nat) (hk : k < 8) : (hiByte q.2).getLsbD k = q.2.getLsbD (8 + k) := by
    simp [hiByte, hk]
  refine ⟨_, effect, rfl, ?_, (s.changesOnly_setFlags _).cost 20⟩
  rw [← high 5 (by decide), ← high 3 (by decide)]
  exact bitFlags_bits _ _ _ _

/-- The byte with its bit `b` set or cleared. -/
def putBit (v : Byte) (b : BitVec 3) (one : Bool) : Byte := if one then v ||| bitMask b else v &&& ~~~bitMask b

theorem putBit_getLsbD (v : Byte) (b : BitVec 3) (one : Bool) (k : Nat) (hk : k < 8) :
    (putBit v b one).getLsbD k = if k = b.toNat then one else v.getLsbD k := by
  cases one
  · exact reset_bit v b k hk
  · exact set_bit v b k hk

/-- Settles O51: every form writes one byte with the bit changed, and a copy form writes it to a register too. -/
theorem bitSetReset : Obligations.BitSetReset := by
  intro s b r d changed
  refine ⟨fun q hq => ?register, fun q hq => ?memory⟩
  case register =>
    have effect : exec q.1 s = done 8 (s.setReg r (putBit (s.reg r) b q.2)) := by
      fin_cases hq <;> rfl
    refine ⟨_, effect, rfl, ?_, (s.changesOnly_setReg r _).cost 8⟩
    exact (congrArg (changed (s.reg r) · q.2) (s.reg_setReg r _)).mpr (putBit_getLsbD _ b q.2)
  case memory =>
    let result := putBit (s.memRead q.2.2.1) b q.2.1
    have effect : (q.2.2.2.1 = [] ∧ exec q.1 s = done q.2.2.2.2 (s.memWrite q.2.2.1 result)) ∨
        (q.2.2.2.1 = [regPart r] ∧
          exec q.1 s = done q.2.2.2.2 ((s.memWrite q.2.2.1 result).setReg r result)) := by
      fin_cases hq
      iterate 6 exact .inl ⟨rfl, rfl⟩
      all_goals exact .inr ⟨rfl, rfl⟩
    obtain ⟨parts, effect⟩ | ⟨parts, effect⟩ := effect <;> rw [parts]
    · exact ⟨_, result, effect, rfl, putBit_getLsbD _ b _, Bus.write_storesByte .., fun h => absurd rfl h,
        (s.changesOnly_memWrite _ _).cost _⟩
    · exact ⟨_, result, effect, rfl, putBit_getLsbD _ b _, Bus.write_storesByte ..,
        fun _ => State.reg_setReg _ r result,
        ((s.changesOnly_memWrite _ _).append (State.changesOnly_setReg _ r _)).cost _⟩

/-! RLD and RRD. -/

/-- Two digits make a byte. -/
theorem digits_toNat (x y : BitVec 4) : BitVec.toNat (w := 8) (x ++ y) = x.toNat * 16 + y.toNat :=
  toNat_append_eq_add x y

theorem highDigit_toNat (v : Byte) : (v.extractLsb' 4 4).toNat = v.toNat / 16 := by
  have := v.isLt
  rw [BitVec.extractLsb'_toNat, Nat.shiftRight_eq_div_pow]
  omega

theorem lowDigit_toNat (v : Byte) : (v.extractLsb' 0 4).toNat = v.toNat % 16 := BitVec.extractLsb'_toNat ..

/-- The state after a digit rotate: the new byte at HL, the new A and its flags. -/
def State.setDigits (s : State) (m a : Byte) : State :=
  ((s.memWrite s.main.hl m).setA a).setFlags (digitFlags s.flags a)

theorem State.changesOnly_setDigits (s : State) (m a : Byte) : s.changesOnly (s.setDigits m a) [.a, .f, .bus] :=
  (((s.changesOnly_memWrite _ _).append (State.changesOnly_setA _ _)).append (State.changesOnly_setFlags _ _)).mono
    (by simp)

/-- Settles O52: each writes the two bytes that its three digits make. -/
theorem digitRotates : Obligations.DigitRotates := by
  intro s hl a m q hq
  have effect : ∃ m' a' : Byte, exec q.1 s = done 18 (s.setDigits m' a') ∧ a'.toNat = q.2.1 ∧ m'.toNat = q.2.2 := by
    have two {x y : BitVec 4} {j k : Nat} (hx : x.toNat = j) (hy : y.toNat = k) :
        BitVec.toNat (w := 8) (x ++ y) = j * 16 + k := hx ▸ hy ▸ digits_toNat x y
    fin_cases hq
    · exact ⟨_, _, rfl, two (highDigit_toNat _) (highDigit_toNat _), two (lowDigit_toNat _) (lowDigit_toNat _)⟩
    · exact ⟨_, _, rfl, two (highDigit_toNat _) (lowDigit_toNat _), two (lowDigit_toNat _) (highDigit_toNat _)⟩
  obtain ⟨m', a', effect, ha, hm⟩ := effect
  exact ⟨_, m', effect, rfl, ha, hm, Bus.write_storesByte .., digitFlags_bits _ _,
    (s.changesOnly_setDigits m' a').cost 18⟩

end Sys2Proof.Machine
end

section
/-! Jumps, calls, returns, pops and control (45_jump_call_return.md, 41_load16_stack_exchange.md, 48_cpu_control.md). -/

namespace Sys2Proof.Machine

/-! Jumps. -/

theorem toNat_sub_one8 (v : Byte) : (v - 1#8).toNat = (v.toNat + 255) % 256 := by
  rw [BitVec.toNat_sub, Nat.add_comm]
  rfl

theorem sub_one8_ne_zero_iff (v : Byte) : v - 1#8 ≠ 0#8 ↔ v ≠ 1#8 := by
  rw [ne_eq, BitVec.sub_eq_iff_eq_add]
  rfl

/-- A word moved by a signed distance. -/
theorem toNat_add_signed (x y : Word) : ((x + y).toNat : Int) = ((x.toNat : Int) + y.toInt) % 65536 := by
  rw [BitVec.toNat_add, signed16]
  split <;> omega

section Jumps
variable (s : State)

/-- The relative target (rule R303). -/
theorem State.relative_toNat (e : Byte) : ((s.relative e).toNat : Int) = ((s.pc.toNat : Int) + e.toInt) % 65536 := by
  have signed : (sext8 e).toInt = e.toInt := BitVec.toInt_signExtend_of_le (by decide)
  exact signed ▸ toNat_add_signed s.pc (sext8 e)

theorem State.jumps {v : Word} {k : Int} (n : Nat) (h : (v.toNat : Int) = k) :
    ∃ t, done n { s with pc := v } = .next t ∧ t.cost = n ∧ (t.pc.toNat : Int) = k ∧ s.changesOnly t [.pc] :=
  ⟨_, rfl, rfl, h, (s.changesOnly_setPC v).cost n⟩

theorem exec_jpCC (px : Pfx) (cc : Cond) (nn : Word) : exec (.jpCC px cc nn) s =
    done (10 + px.extra) { s with pc := if s.flags.holds cc then nn else s.pc } := by
  change done _ (if s.flags.holds cc then _ else _) = _
  split <;> rfl

theorem exec_jrCC (px : Pfx) (cc : Cond) (e : Byte) : exec (.jrCC px cc e) s =
    done ((if s.flags.holds cc then 12 else 7) + px.extra)
      { s with pc := if s.flags.holds cc then s.relative e else s.pc } := by
  change (if s.flags.holds cc then _ else _) = _
  split <;> rfl

theorem exec_djnz_of_ne {px : Pfx} (e : Byte) (h : s.main.b ≠ 1#8) : exec (.djnz px e) s =
    done (13 + px.extra) { s.setReg .b (s.main.b - 1#8) with pc := s.relative e } :=
  if_pos ((sub_one8_ne_zero_iff _).2 h)

theorem exec_djnz_of_eq {px : Pfx} (e : Byte) (h : s.main.b = 1#8) : exec (.djnz px e) s =
    done (8 + px.extra) (s.setReg .b (s.main.b - 1#8)) :=
  if_neg fun hb => (sub_one8_ne_zero_iff _).1 hb h

end Jumps

/-- Settles O53: every jump writes PC, and `DJNZ` B too. -/
theorem jumps : Obligations.Jumps := by
  intro s px cc nn e f holds next near
  refine ⟨?_, ?_, ?_, ?_, ?_, ?_, ?_, ?_, fun q hq => ?jump, ?djnz⟩
  case jump =>
    fin_cases hq
    · exact s.jumps _ rfl
    · exact exec_jpCC s px cc nn ▸ s.jumps _ (apply_ite (fun v : Word => (v.toNat : Int)) _ _ _)
    · exact s.jumps _ (congrArg _ (mkWord_toNat _ _))
    · exact s.jumps _ rfl
    · exact s.jumps _ rfl
    · exact s.jumps _ (s.relative_toNat e)
    · refine exec_jrCC s px cc e ▸ s.jumps _ ?_
      rw [apply_ite (fun v : Word => (v.toNat : Int)), s.relative_toNat]
  case djnz =>
    by_cases h : s.main.b = 1#8
    · exact ⟨_, exec_djnz_of_eq s e h, toNat_sub_one8 _, fun hb => absurd h hb, fun _ => ⟨rfl, rfl⟩,
        ((s.changesOnly_setReg .b _).mono (by simp [regPart])).cost _⟩
    · exact ⟨_, exec_djnz_of_ne s e h, toNat_sub_one8 _, fun _ => ⟨s.relative_toNat e, rfl⟩, fun hb => absurd hb h,
        (((s.changesOnly_setReg .b _).append (State.changesOnly_setPC _ _)).mono (by simp [regPart])).cost _⟩
  all_goals
    rintro rfl
    rfl

/-! Calls. -/

section Calls
variable (s : State)

theorem exec_callCC_of_holds {px : Pfx} {cc : Cond} (nn : Word) (h : s.flags.holds cc = true) :
    exec (.callCC px cc nn) s = done (17 + px.extra) (s.callTo nn) := if_pos h

theorem exec_callCC_of_not_holds {px : Pfx} {cc : Cond} (nn : Word) (h : s.flags.holds cc = false) :
    exec (.callCC px cc nn) s = done (10 + px.extra) s := if_neg (by simp [h])

theorem State.changesOnly_callTo (target : Word) : s.changesOnly (s.callTo target) [.pc, .sp, .bus] :=
  ((s.changesOnly_push16 _).append (State.changesOnly_setPC _ _)).mono (by simp)

theorem State.calls {target : Word} {k : Nat} (n : Nat) (h : target.toNat = k) :
    ∃ t, done n (s.callTo target) = .next t ∧ t.cost = n ∧ t.pc.toNat = k ∧ t.sp = s.sp - 2#16 ∧
      s.bus.storesWord t.bus (s.sp - 2#16) (hiByte s.pc) (loByte s.pc) ∧ s.changesOnly t [.pc, .sp, .bus] :=
  ⟨_, rfl, rfl, h, s.push16_sp_eq s.pc, s.push16_storesWord s.pc, (s.changesOnly_callTo target).cost n⟩

end Calls

/-- The target of `RST` (rule R314). -/
theorem restart_toNat (y : BitVec 3) : (y.setWidth 16 * 8#16).toNat = y.toNat * 8 := by
  have := y.isLt
  rw [BitVec.toNat_mul, BitVec.toNat_setWidth]
  change y.toNat % 65536 * 8 % 65536 = _
  omega

/-- Settles O54: every call taken is one push and one jump. -/
theorem calls : Obligations.Calls := by
  intro s px cc nn y
  refine ⟨fun q hq taken => ?taken, fun h =>
    ⟨_, exec_callCC_of_not_holds s nn h, rfl, (s.changesOnly_refl []).cost _⟩⟩
  fin_cases hq
  · exact s.calls _ rfl
  · exact exec_callCC_of_holds s nn taken ▸ s.calls _ rfl
  · exact s.calls _ (restart_toNat y)

/-! Returns and pops. -/

section Returns
variable (s : State)

theorem exec_retCC_of_holds {px : Pfx} {cc : Cond} (h : s.flags.holds cc = true) :
    exec (.retCC px cc) s = done (11 + px.extra) s.returnTo := if_pos h

theorem exec_retCC_of_not_holds {px : Pfx} {cc : Cond} (h : s.flags.holds cc = false) :
    exec (.retCC px cc) s = done (5 + px.extra) s := if_neg (by simp [h])

/-- A return and IFF1 written: what all returns do. -/
theorem State.changesOnly_return (iff1 : Bool) :
    s.changesOnly { s.returnTo with iff1 := iff1 } [.pc, .sp, .iff1] := by
  refine State.changesOnly_of fun p hp => ?_
  cases p
  case pc | sp | iff1 => simp at hp
  all_goals rfl

theorem State.changesOnly_popped : s.changesOnly s.pop16.2 [.sp] := s.changesOnly_setSP _

end Returns

/-- Settles O55: every return and every pop is one 16-bit read of the stack. -/
theorem returnsAndPops : Obligations.ReturnsAndPops := by
  intro s px cc y k top
  have read : s.pop16.1.toNat = top := mkWord_toNat _ _
  refine ⟨fun q hq taken => ?ret, fun h =>
    ⟨_, exec_retCC_of_not_holds s h, rfl, (s.changesOnly_refl []).cost _⟩, fun q hq => ?pop⟩
  case ret =>
    have effect : exec q.1 s = done q.2.2.2 { s.returnTo with iff1 := q.2.2.1 } := by
      fin_cases hq
      on_goal 2 => exact exec_retCC_of_holds s taken
      all_goals rfl
    exact ⟨_, effect, rfl, read, rfl, rfl, (s.changesOnly_return _).cost _⟩
  case pop =>
    fin_cases hq
    · have value : State.stk { s.pop16.2.setStk k s.pop16.1 with cost := 10 + px.extra } k = s.pop16.1 :=
        (State.stk_cost _ _ k).trans (State.stk_setStk _ k _)
      refine ⟨_, rfl, rfl, (congrArg BitVec.toNat value).trans read, ?_,
        (s.changesOnly_popped.append (State.changesOnly_setStk _ k _)).cost _⟩
      cases k <;> rfl
    · exact ⟨_, rfl, rfl, read, rfl, (s.changesOnly_popped.append (State.changesOnly_setIndex _ .ix _)).cost _⟩
    · exact ⟨_, rfl, rfl, read, rfl, (s.changesOnly_popped.append (State.changesOnly_setIndex _ .iy _)).cost _⟩

/-! Control. -/

section Control
variable (s : State)

theorem State.changesOnly_setHalted (v : Bool) : s.changesOnly { s with halted := v } [.halted] := by
  refine State.changesOnly_of fun p hp => ?_
  cases p
  case halted => simp at hp
  all_goals rfl

theorem State.changesOnly_setIm (m : IntMode) : s.changesOnly { s with im := m } [.im] := by
  refine State.changesOnly_of fun p hp => ?_
  cases p
  case im => simp at hp
  all_goals rfl

theorem State.changesOnly_setEnables (v w : Bool) : s.changesOnly { s with iff1 := v, iff2 := w } [.iff1, .iff2] := by
  refine State.changesOnly_of fun p hp => ?_
  cases p
  case iff1 | iff2 => simp at hp
  all_goals rfl

theorem State.changesOnly_setEiPending (v : Bool) : s.changesOnly { s with eiPending := v } [.eiPending] := by
  refine State.changesOnly_of fun p hp => ?_
  cases p
  case eiPending => simp at hp
  all_goals rfl

end Control

/-- Settles O60: each by its definition, the undefined opcodes by the parameter. -/
theorem controlInstructions : Obligations.ControlInstructions := by
  intro s px op y x x'
  refine ⟨⟨_, rfl, rfl, (s.changesOnly_refl []).cost _⟩, ⟨_, rfl, rfl, (s.changesOnly_refl []).cost _⟩,
    ⟨_, rfl, rfl, rfl, (s.changesOnly_setHalted true).cost _⟩,
    ⟨_, rfl, rfl, rfl, rfl, (s.changesOnly_setEnables false false).cost _⟩, fun q hq => ?mode, ?undefined,
    fun i hi => ?prefixed⟩
  case mode =>
    have effect : exec q.1 s = done 8 { s with im := q.2 } := by
      fin_cases hq <;> rfl
    exact ⟨_, effect, rfl, rfl, (s.changesOnly_setIm q.2).cost 8⟩
  case undefined =>
    cases h : s.cfg.edUndefined
    · exact ⟨_, exec_undefinedED_nop op h, rfl, fun _ => (s.changesOnly_refl []).cost 8, nofun⟩
    · exact ⟨_, exec_undefinedED_sourceNoni op h, rfl, nofun, fun _ => ⟨rfl, rfl, rfl,
        ((s.changesOnly_setEnables false false).append (State.changesOnly_setEiPending _ true)).cost 8⟩⟩
  case prefixed =>
    have effect : i.size = 2 ∧ exec i s = done 4 { s with pc := s.pc - 1#16 } := by
      fin_cases hi
      · exact ⟨rfl, rfl⟩
      · exact ⟨rfl, rfl⟩
    exact ⟨effect.1, _, effect.2, rfl, rfl, (s.changesOnly_setPC _).cost 4⟩

end Sys2Proof.Machine
end

section
/-! Block instructions, input and output (46_block.md, 47_io.md). -/

namespace Sys2Proof.Machine

/-! The end of a block instruction. -/

/-- A unit's end: back by 2 at 21 T for another one, or on at 16 T (rule R332). -/
def State.finish (t : State) (again : Bool) : Result State :=
  done (if again then 21 else 16) { t with pc := if again then t.pc - 2#16 else t.pc }

theorem State.repeatWhile_eq (t : State) {more : State → Bool} {again : Bool} (h : more t = again) :
    t.repeatWhile more = t.finish again := by
  subst h
  unfold State.repeatWhile State.finish
  split <;> rfl

/-- A form that does not repeat ends as a repeating one does that has no more to do. -/
theorem State.finish_once (t : State) (more : Bool) : t.finish (false && more) = done 16 t := rfl

theorem sub_one16_ne_zero_iff (v : Word) : v - 1#16 ≠ 0#16 ↔ v ≠ 1#16 := by
  rw [ne_eq, BitVec.sub_eq_iff_eq_add]
  rfl

section Units
variable (s : State) (step : Word)

/-! Transfers. -/

theorem State.transferUnit_moreBC : (s.transferUnit step).moreBC = decide (s.main.bc ≠ 1#16) := by
  have count : (s.transferUnit step).main.bc = s.main.bc - 1#16 := mkWord_hiByte_loByte _
  unfold State.moreBC
  simp only [count, sub_one16_ne_zero_iff]

theorem ldFlags_bits (a v f : Byte) (bc : Word) : flagBits (ldFlags (Flags.ofByte f) a v (bc - 1#16)).toByte
    (f.getLsbD 7) (f.getLsbD 6) ((v + a).getLsbD 1) false ((v + a).getLsbD 3) (decide (bc ≠ 1#16)) false
    (f.getLsbD 0) :=
  Flags.bits_of _ rfl rfl rfl rfl rfl (decide_eq_decide.2 (sub_one16_ne_zero_iff bc)) rfl rfl

theorem State.changesOnly_transferUnit :
    s.changesOnly (s.transferUnit step) [.bus, .h, .l, .d, .e, .b, .c, .f] :=
  ((((s.changesOnly_memWrite _ _).append (State.changesOnly_setHL _ _)).append (State.changesOnly_setDE _ _)).append
    (State.changesOnly_setBC _ _)).append (State.changesOnly_setFlags _ _)

end Units

/-- Settles O56: every form is one transfer, and a repeating form goes back while BC is not 0. -/
theorem blockTransfer : Obligations.BlockTransfer := by
  intro s q hq hl de bc v n f again
  have effect : ∃ step : Word, step.toInt = q.2.1 ∧ exec q.1 s = (s.transferUnit step).finish again := by
    fin_cases hq
    · exact ⟨1#16, rfl, (State.finish_once _ _).symm⟩
    · exact ⟨-1#16, rfl, (State.finish_once _ _).symm⟩
    · exact ⟨1#16, rfl, exec_ldir s ▸ State.repeatWhile_eq _ (s.transferUnit_moreBC _)⟩
    · exact ⟨-1#16, rfl, exec_lddr s ▸ State.repeatWhile_eq _ (s.transferUnit_moreBC _)⟩
  obtain ⟨step, hstep, effect⟩ := effect
  have moved (x : Word) : ((mkWord (hiByte (x + step)) (loByte (x + step))).toNat : Int) =
      ((x.toNat : Int) + q.2.1) % 65536 := by
    rw [mkWord_hiByte_loByte, toNat_add_signed, hstep]
  refine ⟨_, effect, Bus.write_storesByte .., moved hl, moved de, ?_, ldFlags_bits _ _ _ _, rfl, rfl,
    (((s.changesOnly_transferUnit step).append (State.changesOnly_setPC _ _)).mono (by simp)).cost _⟩
  exact (congrArg BitVec.toNat (mkWord_hiByte_loByte _)).trans (toNat_sub_one _)

/-! Searches. -/

section Search
variable (s : State) (step : Word)

theorem half_borrow (a v : Byte) : decide (((a &&& 0x0F#8).toNat : Int) - (v &&& 0x0F#8).toNat < 0) =
    decide (a.toNat % 16 < v.toNat % 16) := by
  rw [low_nibble, low_nibble, decide_eq_decide]
  omega

theorem setWidth_ofBool (h : Bool) : (BitVec.ofBool h).setWidth 8 = BitVec.ofNat 8 h.toNat := by
  cases h <;> rfl

theorem cpFlags_bits (a v f : Byte) (bc : Word) :
    let half := decide (a.toNat % 16 < v.toNat % 16)
    let n := a - v - BitVec.ofNat 8 half.toNat
    flagBits (cpFlags (Flags.ofByte f) a v (bc - 1#16)).toByte ((a - v).getLsbD 7) (decide (a = v)) (n.getLsbD 1) half
      (n.getLsbD 3) (decide (bc ≠ 1#16)) true (f.getLsbD 0) := by
  intro half n
  have less : a - v - (BitVec.ofBool (decide (((a &&& 0x0F#8).toNat : Int) - (v &&& 0x0F#8).toNat < 0))).setWidth 8 =
      n := by rw [half_borrow, setWidth_ofBool]
  exact Flags.bits_of _ rfl (decide_eq_decide.2 sub_eq_zero) (congrArg (·.getLsbD 1) less) (half_borrow a v)
    (congrArg (·.getLsbD 3) less) (decide_eq_decide.2 (sub_one16_ne_zero_iff bc)) rfl rfl

theorem State.compareUnit_moreSearch : (s.compareUnit step).moreSearch =
    (decide (s.main.bc ≠ 1#16) && decide (s.main.a ≠ s.memRead s.main.hl)) := by
  have count : (s.compareUnit step).main.bc = s.main.bc - 1#16 := mkWord_hiByte_loByte _
  have differ : (s.compareUnit step).flags.z = decide (s.main.a = s.memRead s.main.hl) :=
    (congrArg Flags.z (State.setFlags_flags _ _)).trans (decide_eq_decide.2 sub_eq_zero)
  unfold State.moreSearch
  rw [count, differ, ← decide_not]
  simp only [sub_one16_ne_zero_iff, ne_eq]

theorem State.changesOnly_compareUnit : s.changesOnly (s.compareUnit step) [.h, .l, .b, .c, .f] :=
  ((s.changesOnly_setHL _).append (State.changesOnly_setBC _ _)).append (State.changesOnly_setFlags _ _)

end Search

/-- Settles O57: every form is one comparison, and a repeating form goes back while BC is not 0 and A differs. -/
theorem blockSearch : Obligations.BlockSearch := by
  intro s q hq hl bc v a half n again
  have effect : ∃ step : Word, step.toInt = q.2.1 ∧ exec q.1 s = (s.compareUnit step).finish again := by
    fin_cases hq
    · exact ⟨1#16, rfl, (State.finish_once _ _).symm⟩
    · exact ⟨-1#16, rfl, (State.finish_once _ _).symm⟩
    · exact ⟨1#16, rfl, exec_cpir s ▸ State.repeatWhile_eq _ (s.compareUnit_moreSearch _)⟩
    · exact ⟨-1#16, rfl, exec_cpdr s ▸ State.repeatWhile_eq _ (s.compareUnit_moreSearch _)⟩
  obtain ⟨step, hstep, effect⟩ := effect
  refine ⟨_, effect, ?_, ?_, cpFlags_bits _ _ _ _, rfl, rfl,
    (((s.changesOnly_compareUnit step).append (State.changesOnly_setPC _ _)).mono (by simp)).cost _⟩
  · exact (congrArg (fun x : Word => (x.toNat : Int)) (mkWord_hiByte_loByte _)).trans (hstep ▸ toNat_add_signed hl step)
  · exact (congrArg BitVec.toNat (mkWord_hiByte_loByte _)).trans (toNat_sub_one _)

/-! Ports. -/

section Ports
variable (s : State) (step : Word) (port v : Byte)

/-- A port write reaches no memory byte. -/
theorem State.memRead_ioWrite (a : Word) : (s.ioWrite port v).memRead a = s.memRead a := by
  unfold State.ioWrite
  split
  · rfl
  · split <;> rfl
  · rfl

theorem State.ioWrite_setReg_b (b : Byte) : (s.setReg .b b).ioWrite port v = (s.ioWrite port v).setReg .b b := by
  unfold State.ioWrite
  split
  · rfl
  · split <;> rfl
  · rfl

theorem blockIoFlags_z (free b : Byte) : (blockIoFlags free (b - 1#8)).toByte.getLsbD 6 = decide (b = 1#8) := by
  obtain ⟨-, z, -⟩ := (blockIoFlags free (b - 1#8)).bits
  rw [z]
  exact decide_eq_decide.2 (not_iff_not.1 (sub_one8_ne_zero_iff b))

theorem State.changesOnly_setBlockIoFlags : s.changesOnly s.setBlockIoFlags [.draws, .f] :=
  s.changesOnly_draw.append (State.changesOnly_setFlags _ _)

theorem decide_sub_one8_ne_zero (b : Byte) : decide (b - 1#8 ≠ 0#8) = !decide (b = 1#8) := by
  rw [← decide_not]
  exact decide_eq_decide.2 (sub_one8_ne_zero_iff b)

theorem State.inputUnit_moreB : (s.inputUnit step).moreB = !decide (s.main.b = 1#8) := decide_sub_one8_ne_zero _

theorem State.outputUnit_eq : s.outputUnit step =
    (((s.ioWrite s.main.c (s.memRead s.main.hl)).setReg .b (s.main.b - 1#8)).setHL
      (s.main.hl + step)).setBlockIoFlags :=
  congrArg (fun t : State => (t.setHL (s.main.hl + step)).setBlockIoFlags) (s.ioWrite_setReg_b ..)

theorem State.outputUnit_moreB : (s.outputUnit step).moreB = !decide (s.main.b = 1#8) := by
  rw [State.outputUnit_eq]
  exact decide_sub_one8_ne_zero _

theorem State.changesOnly_inputUnit :
    s.changesOnly (s.inputUnit step) [.vdp, .draws, .bus, .h, .l, .b, .draws, .f] :=
  ((((s.changesOnly_ioRead _).append (State.changesOnly_memWrite _ _ _)).append (State.changesOnly_setHL _ _)).append
    (State.changesOnly_setReg _ .b _)).append (State.changesOnly_setBlockIoFlags _)

theorem State.changesOnly_outputUnit :
    s.changesOnly (s.outputUnit step) [.bus, .vdp, .psg, .b, .h, .l, .draws, .f] := by
  rw [State.outputUnit_eq]
  exact (((s.changesOnly_ioWrite _ _).append (State.changesOnly_setReg _ .b _)).append
    (State.changesOnly_setHL _ _)).append (State.changesOnly_setBlockIoFlags _)

end Ports

/-- Settles O58: every form is one port access, and a repeating form goes back while B is not 0. -/
theorem blockPorts : Obligations.BlockPorts := by
  intro s hl last
  refine ⟨fun q hq => ?input, fun q hq => ?output⟩
  case input =>
    have effect : ∃ step : Word, step.toInt = q.2.1 ∧ exec q.1 s = (s.inputUnit step).finish (q.2.2 && !last) := by
      fin_cases hq
      · exact ⟨1#16, rfl, (State.finish_once _ _).symm⟩
      · exact ⟨-1#16, rfl, (State.finish_once _ _).symm⟩
      · exact ⟨1#16, rfl, exec_inir s ▸ State.repeatWhile_eq _ (s.inputUnit_moreB _)⟩
      · exact ⟨-1#16, rfl, exec_indr s ▸ State.repeatWhile_eq _ (s.inputUnit_moreB _)⟩
    obtain ⟨step, hstep, effect⟩ := effect
    have sameBus : (s.ioRead s.main.c).2.bus = s.bus := (s.changesOnly_ioRead s.main.c).1 .bus (by simp)
    have samePC : (s.inputUnit step).pc = s.pc := (s.changesOnly_inputUnit step).1 .pc (by simp)
    refine ⟨_, effect, ?_, rfl, ?_, toNat_sub_one8 _, blockIoFlags_z _ _, ?_, rfl,
      (((s.changesOnly_inputUnit step).append (State.changesOnly_setPC _ _)).mono (by simp)).cost _⟩
    · exact sameBus ▸ Bus.write_storesByte ..
    · exact (congrArg (fun x : Word => (x.toNat : Int)) (mkWord_hiByte_loByte _)).trans
        (hstep ▸ toNat_add_signed hl step)
    · exact congrArg (fun pc : Word => if q.2.2 && !last then pc - 2#16 else pc) samePC
  case output =>
    intro o
    have effect : ∃ step : Word, step.toInt = q.2.1 ∧ exec q.1 s = (s.outputUnit step).finish (q.2.2 && !last) := by
      fin_cases hq
      · exact ⟨1#16, rfl, (State.finish_once _ _).symm⟩
      · exact ⟨-1#16, rfl, (State.finish_once _ _).symm⟩
      · exact ⟨1#16, rfl, exec_otir s ▸ State.repeatWhile_eq _ (s.outputUnit_moreB _)⟩
      · exact ⟨-1#16, rfl, exec_otdr s ▸ State.repeatWhile_eq _ (s.outputUnit_moreB _)⟩
    obtain ⟨step, hstep, effect⟩ := effect
    have samePC : (s.outputUnit step).pc = s.pc := (s.changesOnly_outputUnit step).1 .pc (by simp)
    have frame := (((s.changesOnly_outputUnit step).append (State.changesOnly_setPC _
      (if q.2.2 && !last then (s.outputUnit step).pc - 2#16 else (s.outputUnit step).pc))).cost
      (if q.2.2 && !last then 21 else 16))
    refine ⟨_, effect, ?_⟩
    rw [State.outputUnit_eq] at samePC frame ⊢
    refine ⟨rfl, rfl, rfl, ?_, toNat_sub_one8 _, blockIoFlags_z _ _, ?_, rfl, s.memRead_ioWrite _ _,
      frame.mono (by simp)⟩
    · exact (congrArg (fun x : Word => (x.toNat : Int)) (mkWord_hiByte_loByte _)).trans
        (hstep ▸ toNat_add_signed hl step)
    · exact congrArg (fun pc : Word => if q.2.2 && !last then pc - 2#16 else pc) samePC

theorem inFlags_bits (v f : Byte) : flagBits (inFlags (Flags.ofByte f) v).toByte (v.getLsbD 7) (decide (v = 0#8))
    (v.getLsbD 5) false (v.getLsbD 3) (decide (ones v % 2 = 0)) false (f.getLsbD 0) :=
  Flags.bits_of _ rfl rfl rfl rfl rfl (parity_ones v) rfl rfl

/-- Settles O59: an input is one port read and one register or F written; an output is one port write. -/
theorem portInstructions : Obligations.PortInstructions := by
  intro s px r n v seen flags
  refine ⟨⟨_, rfl, rfl, rfl, rfl,
      (((s.changesOnly_ioRead n).append (State.changesOnly_setA _ _)).mono (by simp)).cost _⟩,
    ⟨_, rfl, rfl, (State.reg_setFlags _ _ r).trans (State.reg_setReg _ r _), inFlags_bits _ _, rfl, ?_⟩,
    ⟨_, rfl, rfl, inFlags_bits _ _, rfl,
      (((s.changesOnly_ioRead _).append (State.changesOnly_setFlags _ _)).mono (by simp)).cost _⟩, fun q hq => ?output⟩
  · exact ((((s.changesOnly_ioRead _).append (State.changesOnly_setReg _ r _)).append
      (State.changesOnly_setFlags _ _)).mono (by simp)).cost _
  case output =>
    have effect : exec q.1 s = done q.2.2.2 (s.ioWrite q.2.1 q.2.2.1) := by
      fin_cases hq <;> rfl
    exact ⟨_, effect, rfl, rfl, rfl, rfl, s.memRead_ioWrite _ _, (s.changesOnly_ioWrite _ _).cost _⟩

end Sys2Proof.Machine
end
